-- ==== Sys2Proof/Word.lean ====
section
/-! DEFINITION. The widths of the GVQ-40's words: samples and link words (R1, R208), bytes of the link (R188),
counters (R171), channel and slot numbers (R30). -/

namespace Sys2Proof

/-- A byte of the message link (R188). -/
abbrev Byte := BitVec 8

/-- A word of the message link, 16 bits (R208). -/
abbrev Word := BitVec 16

/-- A sample or a tap: a 16-bit two's complement word, read with `BitVec.toInt` (R1, R2). -/
abbrev Sample := BitVec 16

/-- A 32-bit count that wraps (R31, R171). -/
abbrev Count := BitVec 32

/-- A channel number 0..39 (R37). -/
abbrev ChanId := Fin 40

/-- A highway slot number 0..63 (R18). -/
abbrev SlotId := Fin 64

end Sys2Proof
end

