-- ==== Sys2Proof/Syntax.lean ====
section
/-! DEFINITION. The commands of the block: one constructor for each row of spec/opcode_table.json. -/

namespace Sys2Proof

/-- What the trunk interface gives the part over a frame that ends on time: the levels of the frame sync input at the bit
clocks after the bit count's present value, up to the sync, and the receive data of the frame, the bit at bit count 0 its most
significant bit (R18). -/
structure FrameInput where
  hfs : List Bool
  hrd : BitVec 1024
deriving DecidableEq, Repr

/-- One step of the part. The table gives no row any bits or fields; an operand is what the spec's event itself carries
(log entries 5, 6, 8 and 9): `hfs` holds the levels of the frame sync input at the bit clocks after the bit count's present
value, up to the event (R18), and `sdi` the bits of the inbound data input, in the order clocked (R188). A request row takes
its operands from the request at the head of the request queue (R195). -/
inductive Instr where
  /-- POWER_UP: power comes up, or NRST rises (R206, R210). -/
  | powerUp
  /-- HUNT_SYNC: a sync in HUNT or LOST (R27). -/
  | huntSync (hfs : List Bool)
  /-- FRAME_END: the on-time sync in SYNCED, with the receive data of the frame it ends (R18, R20). -/
  | frameEnd (frame : FrameInput)
  /-- SLIP: an early or late sync in SYNCED (R23). -/
  | slip (hfs : List Bool)
  /-- HIGHWAY_LOSS: the bit count reaches 3072, with a sync at that very bit clock or without (R19, R25). -/
  | highwayLoss (hfs : List Bool)
  /-- TRAIN_EXPIRY: the train count has reached 0 and no extension is pending (R96). -/
  | trainExpiry (c : ChanId)
  /-- EXTENSION_TAKEN: the train count has reached 0 and an extension is pending (R97). -/
  | extensionTaken (c : ChanId)
  /-- LEAD_IN_END: the lead-in count has reached 2048 (R148). -/
  | leadInEnd (c : ChanId)
  /-- WINDOW_END: the window count has reached 1024 (R150). -/
  | windowEnd (c : ChanId)
  /-- DRAIN_TIMEOUT: the drain frame count has reached 800 (R50). -/
  | drainTimeout (c : ChanId)
  /-- CHIP_SELECT_RISE: NCS rises (R188). -/
  | chipSelectRise
  /-- BAD_FRAME: an inbound byte at which a frame is discarded (R192). -/
  | badFrame (sdi : List Bool)
  /-- REQUEST_ARRIVAL: the last check byte of an accepted request frame (R194). -/
  | requestArrival (sdi : List Bool)
  /-- TX_BLOCK: the last check byte of an accepted TX_BLOCK frame (R72 to R74). -/
  | txBlock (sdi : List Bool)
  /-- REF_BLOCK: the last check byte of an accepted REF_BLOCK frame (R134 to R137). -/
  | refBlock (sdi : List Bool)
  /-- A request of unknown kind is taken (R195). -/
  | unknownKind
  /-- INFO is taken (R205). -/
  | info
  /-- RESET is taken (R207). -/
  | reset
  /-- PROFILE_WRITE is taken (R179). -/
  | profileWrite
  /-- PROFILE_READ is taken (R182). -/
  | profileRead
  /-- PROFILE_LOCK is taken (R183). -/
  | profileLock
  /-- STATS_SNAPSHOT is taken (R174). -/
  | statsSnapshot
  /-- STATS_READ is taken (R176). -/
  | statsRead
  /-- BIND is taken (R39, R40). -/
  | bind
  /-- QUIESCE is taken (R47). -/
  | quiesce
  /-- RELEASE is taken (R54, R55). -/
  | release
  /-- ECHO_MODE is taken (R91). -/
  | echoMode
  /-- ECHO_EXTEND is taken (R98). -/
  | echoExtend
  /-- SET_DELAY is taken (R110). -/
  | setDelay
  /-- EQ_MODE is taken (R123). -/
  | eqMode
  /-- TAPS_READ is taken (R114). -/
  | tapsRead
  /-- TAPS_WRITE is taken (R116). -/
  | tapsWrite
  /-- CHECKPOINT is taken (R107). -/
  | checkpoint
  /-- RESTORE is taken (R108). -/
  | restore
  /-- SURVEY is taken (R144). -/
  | survey
  /-- SURVEY_CANCEL is taken (R155). -/
  | surveyCancel
  /-- QUALITY is taken (R165). -/
  | quality
  /-- ARBITER_CHOICE: the host clocks a byte while no outbound frame is in progress; the choice comes at its first clock
  (R188, R202). -/
  | arbiterChoice
  /-- OUTBOUND_FRAME_COMPLETE: `bytes` bytes of the outbound frame in progress, its start byte among them, come to their
  eighth clock; the frame completes when its last check byte is among them (R188, R204). -/
  | outboundFrameComplete (bytes : Nat)
  /-- INBOUND_BYTE: bits of an inbound byte that is not complete, or that neither completes nor discards a frame (R188,
  R191). -/
  | inboundByte (sdi : List Bool)
  /-- NRST_HELD_LOW: NRST goes low (R210). -/
  | nrstHeldLow
deriving DecidableEq, Repr

end Sys2Proof
end

