-- ==== Sys2Proof/Config.lean ====
section
/-! DEFINITION. What the part fixes (its capacities and limits, from the spec) and the one FREE VALUE the spec leaves open. -/

namespace Sys2Proof.Config

/-- Pages of the history store (R58). -/
abbrev pageCount : Nat := 1280
/-- Samples of a page (R58). -/
abbrev pageSize : Nat := 64
/-- Taps of the tap pool (R67). -/
abbrev tapCapacity : Nat := 7680
/-- Samples a transmit queue can hold (R74). -/
abbrev txQueueMax : Nat := 320
/-- Requests the request queue can hold (R194). -/
abbrev requestMax : Nat := 16
/-- Replies the reply queue can hold (R197). -/
abbrev replyMax : Nat := 16
/-- EQ_BLOCKs the outbound data queue can hold (R201). -/
abbrev dataQueueMax : Nat := 64
/-- The longest payload of a frame (R190). -/
abbrev payloadMax : Nat := 1024
/-- Bit clocks of a highway frame (R19). -/
abbrev frameClocks : Nat := 1024
/-- The bit count at which the lack of a sync is a loss (R25). -/
abbrev lossClocks : Nat := 3072
/-- The guard count a slip or an acquisition sets (R24, R28). -/
abbrev guardTurns : Nat := 64
/-- Frame ends a drain may last (R50). -/
abbrev drainFrames : Nat := 800
/-- Turns of a probe lead-in (R148). -/
abbrev leadInTurns : Nat := 2048
/-- Turns of a survey window (R150). -/
abbrev windowTurns : Nat := 1024
/-- Restarts at which a survey ends SLIPPED (R153). -/
abbrev restartLimit : Nat := 3
/-- Lags a survey can hold (R144). -/
abbrev lagMax : Nat := 512
/-- The train count of an ECHO_MODE TRAIN that gives none (R92). -/
abbrev trainDefault : Nat := 8000
/-- Applied errors at which MSE is measured (R12, R13). -/
abbrev errorsMeasured : Nat := 64
/-- The part code of INFO and STARTED (R205). -/
abbrev partCode : Nat := 0x0428
/-- The revision of INFO and STARTED (R205). -/
abbrev revision : Nat := 1

/-- FREE VALUE (log entry 4; DESIGN CHOICE of its form). Section 3.3 of the spec defines no order among the turns that
different channels take at one frame end, nor among the drains that end at one loss. `turnRank event channel` ranks a
channel at the `event`-th such event, and the channels are taken by rising rank. Nothing constrains it. -/
opaque turnRank : Nat → Nat → Nat

end Sys2Proof.Config
end

