-- ==== Sys2Proof/Machine/State.lean ====
section
/-! DEFINITION. The state of the part as plain data: every piece of state the spec names, and the machine after power-up.
Each field's docstring names the rule; INVENTORY.md lists them with their reset values. -/

namespace Sys2Proof.Machine

/-! ### Names (the code words of R209) -/

/-- Highway states (R27). -/
inductive HwState where | hunt | synced | lost
deriving DecidableEq, Repr

/-- Channel states (R37). -/
inductive ChanState where | free | opened | draining | halted
deriving DecidableEq, Repr

/-- Transmit states (R71). -/
inductive TxState where | priming | running
deriving DecidableEq, Repr

/-- Whether a notice may fire (R71, R161). -/
inductive Arming where | disarmed | armed
deriving DecidableEq, Repr

/-- Echo modes, and the then-mode (R90). -/
inductive EchoMode where | hold | train | track
deriving DecidableEq, Repr

/-- Equalizer modes (R122). -/
inductive EqMode where | bypass | hold | train | track
deriving DecidableEq, Repr

/-- Survey states of a channel (R143). -/
inductive SurveyState where | noSurvey | queued | running
deriving DecidableEq, Repr

/-- Phases of a held correlator (R143). -/
inductive Phase where | leadIn | window
deriving DecidableEq, Repr

/-- Statuses of a survey record (R152). -/
inductive SurveyStatus where | found | weak | slipped | cancelled
deriving DecidableEq, Repr

/-- Causes of a drain's end (R52). -/
inductive DrainCause where | empty | timeout | lineLost
deriving DecidableEq, Repr

/-- Causes of the HIGHWAY notice (R32). -/
inductive HwCause where | sync | lost | slip
deriving DecidableEq, Repr

/-- Causes of the LINK notice (R200). -/
inductive LinkCause where | badFrame | requestDropped
deriving DecidableEq, Repr

/-- What a divergence action restored (R105). -/
inductive Restored where | checkpoint | zero
deriving DecidableEq, Repr

/-- Verdicts of QUALITY (R164). -/
inductive Verdict where | pass | fail | notMeasured
deriving DecidableEq, Repr

/-- Tap sets (R112). -/
inductive TapSet where | near | far | eq | ckNear | ckFar
deriving DecidableEq, Repr

/-- Result codes (R196). -/
inductive ResultCode where
  | ok | adjusted | malformed | noChannel | wrongState | slotBusy | noTaps | noPages | badProfile | locked | late
  | already | notFound | unknownKind
deriving DecidableEq, Repr

/-- Receiver states (R191). -/
inductive RxState where | hunt | header | body
deriving DecidableEq, Repr

/-! ### Sparse sample stores -/

/-- A store of samples by address, in one canonical form: addresses strictly rising and no entry 0. An unlisted address
reads 0 (log entry 2). The unit is the sample, the smallest thing R58 and R120 address. -/
abbrev SampleMem := List (Nat × Sample)

/-! ### Profiles -/

/-- The seventeen fields of a profile (R177); the flags field is its two flags. -/
structure Profile where
  nearTaps : Nat
  farTaps : Nat
  maxDelay : Nat
  eqTaps : Nat
  blockSize : Nat
  echoTrainShift : Nat
  echoTrackShift : Nat
  eqTrainShift : Nat
  eqTrackShift : Nat
  refWindow : Nat
  txStart : Nat
  txLow : Nat
  txHigh : Nat
  erleMin : Nat
  mseMin : Nat
  surveyMinConf : Nat
  autoCheckpoint : Bool
  divergenceGuard : Bool
deriving DecidableEq, Repr

/-- The Default column of R177, the fixed content of slot 0 (R178). -/
def defaultProfile : Profile where
  nearTaps := 64
  farTaps := 64
  maxDelay := 512
  eqTaps := 32
  blockSize := 40
  echoTrainShift := 5
  echoTrackShift := 9
  eqTrainShift := 4
  eqTrackShift := 8
  refWindow := 4
  txStart := 80
  txLow := 80
  txHigh := 240
  erleMin := 24
  mseMin := 21
  surveyMinConf := 9
  autoCheckpoint := true
  divergenceGuard := true

/-! ### Channel contexts -/

/-- The four flags of a block (R127). -/
structure BlockFlags where
  slip : Bool
  starved : Bool
  probe : Bool
  echoAdapt : Bool
deriving DecidableEq, Repr

/-- A saved copy of the near taps, the far taps and D (R106). -/
structure Checkpoint where
  near : List Sample
  far : List Sample
  delay : Nat
deriving DecidableEq, Repr

/-- An entry of the pending-reference list (R131). -/
structure PendingEntry where
  seq : Word
  outputs : List Sample
  positions : List Nat
  slip : Bool
deriving DecidableEq, Repr

/-- The figures of a completed survey window (R15, R152). -/
structure Figures where
  peakLag : Nat
  peakLevel : Nat
  secondLevel : Nat
  confidence : Nat
deriving DecidableEq, Repr

/-- The result record of a survey (R152). -/
structure SurveyRecord where
  status : SurveyStatus
  lo : Nat
  hi : Nat
  lagCount : Nat
  probe : Bool
  restarts : Nat
  figures : Option Figures
  appliedDelay : Option Nat
deriving DecidableEq, Repr

/-- The transmit state of a channel (R71). The level is the length of the queue. -/
structure TxPart where
  queue : List Sample
  state : TxState
  lowArm : Arming
  highArm : Arming
  probe : BitVec 15
deriving DecidableEq, Repr

/-- The echo state of a channel (R88). The tap cursors are kept together in `Cursors`. -/
structure EchoPart where
  near : List Sample
  far : List Sample
  delay : Nat
  mode : EchoMode
  trainCount : Nat
  extension : Option Nat
  thenMode : EchoMode
  checkpoint : Option Checkpoint
  strikes : Nat
  guard : Nat
deriving DecidableEq, Repr

/-- The equalizer state of a channel (R119). `outputs` and `positions` are the block under assembly. -/
structure EqPart where
  taps : List Sample
  mode : EqMode
  ring : SampleMem
  outputs : List Sample
  positions : List Nat
  flags : BlockFlags
  nextSeq : Word
  issued : Bool
  pendingRefs : List PendingEntry
deriving DecidableEq, Repr

/-- The quality state of a channel (R161). -/
structure QualityPart where
  pRx : Nat
  pRes : Nat
  pErr : Nat
  errorCount : Nat
  slipTurns : Nat
  erleArm : Arming
  mseArm : Arming
deriving DecidableEq, Repr

/-- The five tap cursors of a channel (R113). -/
structure Cursors where
  near : Nat
  far : Nat
  eq : Nat
  ckNear : Nat
  ckFar : Nat
deriving DecidableEq, Repr

/-- The twelve live counters of a channel (R171). -/
structure ChanCounters where
  txSamplesStarved : Count
  txBlocksDropped : Count
  eqBlocksSent : Count
  eqBlocksDropped : Count
  refsApplied : Count
  refsErased : Count
  refsLate : Count
  refsMissed : Count
  refsUnknown : Count
  divergeEvents : Count
  trainCompletions : Count
  surveysDone : Count
deriving DecidableEq, Repr

/-- A channel context (section 3.1 of the spec). -/
structure Channel where
  state : ChanState
  slot : Option SlotId
  params : Profile
  pages : List Nat
  writeIndex : Nat
  heldRx : Sample
  tx : TxPart
  echo : EchoPart
  eq : EqPart
  quality : QualityPart
  survey : SurveyState
  lastResult : Option SurveyRecord
  cursors : Cursors
  drainCount : Nat
  counters : ChanCounters
deriving DecidableEq, Repr

/-- No flag set (R127). -/
def BlockFlags.clear : BlockFlags := ⟨false, false, false, false⟩

/-- Every counter 0 (R172). -/
def ChanCounters.zero : ChanCounters := ⟨0, 0, 0, 0, 0, 0, 0, 0, 0, 0, 0, 0⟩

/-- A FREE channel's context with the given counters (R54, R56). The fields the spec calls not observable while the
channel is FREE take the values of log entry 3 (DESIGN CHOICE). The held sample and the probe state are the spec's
(R17, R33). -/
def Channel.blank (counters : ChanCounters) : Channel where
  state := .free
  slot := none
  params := defaultProfile
  pages := []
  writeIndex := 0
  heldRx := 0
  tx := ⟨[], .priming, .disarmed, .armed, BitVec.allOnes 15⟩
  echo := ⟨[], [], 0, .hold, 0, none, .track, none, 0, 0⟩
  eq := ⟨[], .hold, [], [], [], BlockFlags.clear, 0, false, []⟩
  quality := ⟨0, 0, 0, 0, 0, .armed, .armed⟩
  survey := .noSurvey
  lastResult := none
  cursors := ⟨0, 0, 0, 0, 0⟩
  drainCount := 0
  counters := counters

/-! ### Highway -/

/-- The state of the line highway interface (section 2 of the spec). `hfs` is the level found on the frame sync input at
the bit clock before (R18). -/
structure Highway where
  state : HwState
  hfs : Bool
  bitCount : Nat
  reference : Bool
  goodRun : Nat
  slotMap : Vector (Option ChanId) 64
  drive : Vector (Option Sample) 64
  frameCounter : Count
deriving DecidableEq, Repr

/-! ### Delay survey unit -/

/-- An entry of the survey queue (R143). -/
structure SurveyEntry where
  channel : ChanId
  lo : Nat
  hi : Nat
  lagCount : Nat
  probe : Bool
  apply : Bool
deriving DecidableEq, Repr

/-- A held correlator (R143): its survey, phase, counts, and one sum for each lag. -/
structure Correlator where
  entry : SurveyEntry
  phase : Phase
  leadIn : Nat
  window : Nat
  restarts : Nat
  sums : List Int
deriving DecidableEq, Repr

/-- The delay survey unit (R143). -/
structure Dsu where
  queue : List SurveyEntry
  correlators : Vector (Option Correlator) 4
deriving DecidableEq, Repr

/-! ### Statistics -/

/-- The six device counters (R171). -/
structure DevCounters where
  frames : Count
  slips : Count
  syncLosses : Count
  linkBadFrames : Count
  linkRequestsDropped : Count
  unboundBlocks : Count
deriving DecidableEq, Repr

/-- Every device counter 0 (R172). -/
def DevCounters.zero : DevCounters := ⟨0, 0, 0, 0, 0, 0⟩

/-- One channel's share of the snapshot set (R173). -/
structure SnapChannel where
  state : ChanState
  counters : ChanCounters
deriving DecidableEq, Repr

/-- The snapshot set (R173). -/
structure Snapshot where
  valid : Bool
  stamp : Count
  cleared : Bool
  device : DevCounters
  channels : Vector SnapChannel 40
deriving DecidableEq, Repr

/-- The snapshot set at power-up and after RESET (R173). -/
def Snapshot.invalid : Snapshot :=
  ⟨false, 0, false, DevCounters.zero, Vector.replicate 40 ⟨.free, ChanCounters.zero⟩⟩

/-! ### Message link -/

/-- An accepted frame: its kind, channel and tag fields and its payload (R190). -/
structure Frame where
  kind : Byte
  channel : Byte
  tag : Byte
  payload : List Byte
deriving DecidableEq, Repr

/-- A reply waiting to be sent (R196): the result code and the items that follow it, as words. -/
structure Reply where
  kind : Byte
  channel : Byte
  tag : Byte
  code : ResultCode
  items : List Word
deriving DecidableEq, Repr

/-- What a notice carries besides its occurrences (R32, R52, R83, R105, R118, R159, R169, R200, R206). -/
inductive NoticeBody where
  | txLow (level : Nat)
  | txHigh (level : Nat)
  | trainDone (mode : EchoMode) (checkpointTaken : Bool)
  | diverged (restored : Restored) (delay : Nat)
  | surveyDone (record : SurveyRecord)
  | drained (cause : DrainCause) (expired : Nat)
  | quality (erleCrossed mseCrossed : Bool) (erle mse : Option Nat)
  | highway (cause : HwCause) (frame : Count)
  | link (cause : LinkCause) (kind tag : Byte)
  | started
deriving DecidableEq, Repr

/-- An entry of the notice list (R198). -/
structure Notice where
  channel : Byte
  occurrences : Nat
  body : NoticeBody
deriving DecidableEq, Repr

/-- An EQ_BLOCK of the outbound data queue (R129). -/
structure EqBlock where
  channel : ChanId
  seq : Word
  flags : BlockFlags
  echoMode : EchoMode
  eqMode : EqMode
  outputs : List Sample
deriving DecidableEq, Repr

/-- What the outbound frame in progress carries, and what its completion does (R204): the reply or the EQ_BLOCK at the
head of its queue, a notice, or an item that a RESET has removed. `counted` says whether an EQ_BLOCK still counts in
eq_blocks_sent of its channel number: no longer once that number has been bound again. -/
inductive OutSource where
  | reply
  | notice
  | eqBlock (channel : ChanId) (counted : Bool)
  | removed
deriving DecidableEq, Repr

/-- The outbound frame in progress: all its bytes and how many have been sent (R204). -/
structure OutFrame where
  bytes : List Byte
  position : Nat
  source : OutSource
deriving DecidableEq, Repr

/-- Whether the outbound byte now clocked is filler, or a filler byte that was cut is due again (R188). -/
inductive Filler where | absent | clocking | due
deriving DecidableEq, Repr

/-- The state of the message link (section 11 of the spec). `spiBits` are the bits of an incomplete inbound byte, and
`sdo` is the outbound byte last clocked in the chip-select window, none while SDO is in the high-impedance state (R188,
R210; log entry 10). -/
structure Link where
  rxState : RxState
  rxBytes : List Byte
  spiBits : List Bool
  requests : List Frame
  replies : List Reply
  notices : List Notice
  dataQueue : List EqBlock
  outFrame : Option OutFrame
  attn : Bool
  sdo : Option Byte
  filler : Filler
deriving DecidableEq, Repr

/-! ### The whole part -/

/-- The state of the part. `choice` and `pending` are the model's own (log entries 4 and 1). `profiles` are slots 1..7
at positions 0..6; slot 0 has no storage (R178). -/
structure State where
  highway : Highway
  channels : Vector Channel 40
  pageMem : SampleMem
  freePages : List Nat
  freeTaps : Nat
  dsu : Dsu
  profiles : Vector Profile 7
  lock : Bool
  device : DevCounters
  snapshot : Snapshot
  link : Link
  nrstLow : Bool
  choice : Nat
  pending : List Instr
deriving DecidableEq, Repr

/-- Reasons the part stops with an error. There is none: no rule of the spec stops the part, a bad request is answered by
a result code (R196) and a bad frame is counted (R192). -/
inductive Fault where
deriving DecidableEq, Repr

/-- Why the model gives a command no next state. All but `notModelled` say that the command names an event that is not
due in this state, so the part takes no such step there (log entry 5). Each is safe: the model stops, and the part has
no step to go on with. -/
inductive Refusal where
  /-- Raised by `exec` for a row without a meaning. Safe. -/
  | notModelled (mnemonic : String)
  /-- Raised by HUNT_SYNC, FRAME_END, SLIP and HIGHWAY_LOSS when the frame sync levels, the highway state or the bit count
  make no sync, or make the sync, or its absence, another row's event (R18, R19, R27). Safe. -/
  | otherHighwayEvent
  /-- Raised by TRAIN_EXPIRY, EXTENSION_TAKEN, LEAD_IN_END, WINDOW_END and DRAIN_TIMEOUT when the count they name has not
  reached its end on that channel (R96, R97, R148, R150, R50). Safe. -/
  | countNotReached
  /-- Raised by the five inbound rows when the byte brings about another of the five, or more bits come than the byte has
  left (R188, R191 to R193). Safe. -/
  | otherInboundEvent
  /-- Raised by a request row when the request at the head of the request queue is not one of its kind, or there is none
  (R195). Safe. -/
  | requestNotAtHead
  /-- Raised by ARBITER_CHOICE while an outbound frame is in progress (R202). Safe. -/
  | outboundFrameInProgress
  /-- Raised by OUTBOUND_FRAME_COMPLETE while no outbound frame is in progress (R204). Safe. -/
  | noOutboundFrame
deriving DecidableEq, Repr

/-- The state of the highway after power-up and after RESET (R33, R34). At power-up there is no bit clock before the first,
and its frame sync level is taken as low (log entry 24). -/
def Highway.reset : Highway where
  state := .hunt
  hfs := false
  bitCount := 0
  reference := false
  goodRun := 0
  slotMap := Vector.replicate 64 none
  drive := Vector.replicate 64 none
  frameCounter := 0

/-- The link at power-up: the STARTED notice waits and ATTN is asserted (R206). -/
def Link.reset : Link where
  rxState := .hunt
  rxBytes := []
  spiBits := []
  requests := []
  replies := []
  notices := [⟨0xFF, 1, .started⟩]
  dataQueue := []
  outFrame := none
  attn := true
  sdo := none
  filler := .absent

/-- The part right after power-up (R17, R33, R56, R143, R172, R173, R186, R206). -/
def State.reset : State where
  highway := Highway.reset
  channels := Vector.replicate 40 (Channel.blank ChanCounters.zero)
  pageMem := []
  freePages := List.range Config.pageCount
  freeTaps := Config.tapCapacity
  dsu := ⟨[], Vector.replicate 4 none⟩
  profiles := Vector.replicate 7 defaultProfile
  lock := false
  device := DevCounters.zero
  snapshot := Snapshot.invalid
  link := Link.reset
  nrstLow := false
  choice := 0
  pending := []

end Sys2Proof.Machine
end

