-- ==== Sys2Proof/Machine/Arith.lean ====
section
/-! DEFINITION. The exact arithmetic of section 1 of the spec (R3 to R17): saturation, rounding, filters, updates, power
estimators, the quality figures in decibels, the survey figures and the probe. Integers are exact; a result is narrowed
only where a rule saturates it. Division of integers by a positive number is the floor (R3). -/

namespace Sys2Proof.Machine

/-- Clamp to the sample range (R3). -/
def saturate (v : Int) : Sample := BitVec.ofInt 16 (max (-32768) (min 32767 v))

/-- Position of the highest set bit, for values of at least 1 (R3). -/
def msb (v : Nat) : Nat := Nat.log2 v

/-- `v / 2^(k+1)` rounded half up: half the divisor is added before the floor (R3). -/
def roundHalfUp (v : Int) (k : Nat) : Int := (v + 2 ^ k) / 2 ^ (k + 1)

/-- The sum of tap `j` times the sample at lag `k + j`, over the taps in order (R5, R8). -/
def dotFrom (x : Nat → Sample) : Nat → List Sample → Int
  | _, [] => 0
  | k, h :: hs => h.toInt * (x k).toInt + dotFrom x (k + 1) hs

/-- Every tap moved by the error `e` times the sample at its lag, rounded at `2^(q+1)` and saturated (R7, R9). -/
def adaptFrom (e : Sample) (q : Nat) (x : Nat → Sample) : Nat → List Sample → List Sample
  | _, [] => []
  | k, h :: hs =>
    saturate (h.toInt + roundHalfUp (e.toInt * (x k).toInt) q) :: adaptFrom e q x (k + 1) hs

/-- The echo estimate over the near window at lag 0 and the far window at lag `delay` (R5). -/
def echoEstimate (near far : List Sample) (delay : Nat) (x : Nat → Sample) : Int :=
  roundHalfUp (dotFrom x 0 near + dotFrom x delay far) 14

/-- The residual (R6). -/
def residual (rx : Sample) (est : Int) : Sample := saturate (rx.toInt - est)

/-- The equalizer output over the inputs by lag (R8). -/
def equalize (taps : List Sample) (u : Nat → Sample) : Sample := saturate (roundHalfUp (dotFrom u 0 taps) 12)

/-- One step of a power estimator (R10). -/
def powerStep (p : Nat) (v : Sample) : Nat :=
  ((p : Int) + (min (v.toInt * v.toInt / 32768) 32767 - (p : Int)) / 128).toNat

/-- The ERLE value, none while not measured (R11). -/
def erleValue (pRx pRes : Nat) : Option Nat :=
  if 16 ≤ pRx then some (min 45 (3 * (msb (pRx + 1) - msb (pRes + 1)))) else none

/-- The MSE value, none while not measured (R13). -/
def mseValue (pErr errorCount : Nat) : Option Nat :=
  if Config.errorsMeasured ≤ errorCount then some (min 45 (3 * (15 - msb (pErr + 1)))) else none

/-- The probe generator's step: its new bit and its new state (R17). -/
def probeStep (st : BitVec 15) : Bool × BitVec 15 :=
  let bit := st.getLsbD 14 ^^ st.getLsbD 13
  (bit, st <<< 1 ||| (BitVec.ofBool bit).setWidth 15)

/-- The transmit sample of a probe bit (R17). -/
def probeSample (bit : Bool) : Sample := if bit then 8192 else -8192

/-- Add the products of one window turn, the first sum being that of lag `lag` and the next ones 4 apart (R14, R149). -/
def addProducts (x : Nat → Sample) (r : Sample) : Nat → List Int → List Int
  | _, [] => []
  | lag, sum :: sums => (sum + (x lag).toInt * r.toInt) :: addProducts x r (lag + 4) sums

/-- The lag with the largest magnitude and that magnitude, among the sums from lag `lag` on and the best so far; the
smallest such lag wins a tie (R15). -/
def peakFrom : Nat → List Int → Nat × Nat → Nat × Nat
  | _, [], best => best
  | lag, sum :: sums, best => peakFrom (lag + 4) sums (if best.2 < sum.natAbs then (lag, sum.natAbs) else best)

/-- The largest magnitude among the sums whose lag differs from the peak lag by more than 8 (R15). -/
def secondFrom (peak : Nat) : Nat → List Int → Nat → Nat
  | _, [], best => best
  | lag, sum :: sums, best =>
    secondFrom peak (lag + 4) sums (if lag + 8 < peak ∨ peak + 8 < lag then max best sum.natAbs else best)

/-- The level of a magnitude (R15). -/
def surveyLevel (magnitude : Nat) : Nat := min (magnitude / 2 ^ 25) 32767

/-- The result figures of a survey from its sums (R15). -/
def surveyFigures (lo : Nat) (sums : List Int) : Figures :=
  let peak := peakFrom lo sums (lo, 0)
  let peakLevel := surveyLevel peak.2
  let secondLevel := surveyLevel (secondFrom peak.1 lo sums 0)
  ⟨peak.1, peakLevel, secondLevel, min 45 (3 * (msb (peakLevel + 1) - msb (secondLevel + 1)))⟩

/-- The bulk delay an applied result sets (R16). -/
def appliedDelay (maxDelay peakLag : Nat) : Nat := min maxDelay (peakLag - 8)

end Sys2Proof.Machine
end

