-- ==== Sys2Proof/Machine/Memory.lean ====
section
/-! DEFINITION. The sparse sample stores: reading, writing and clearing, in the canonical form (addresses strictly rising,
no entry 0), and the ring addressing of the transmit history and of the equalizer inputs (R63 to R65, R120). -/

namespace Sys2Proof.Machine

/-- The sample at an address; an unlisted address reads 0 (log entry 2). -/
def memRead : SampleMem → Nat → Sample
  | [], _ => 0
  | cell :: m, a => if cell.1 = a then cell.2 else memRead m a

/-- Put a sample at an address, keeping the canonical form. -/
def memWrite : SampleMem → Nat → Sample → SampleMem
  | [], a, v => if v = 0 then [] else [(a, v)]
  | cell :: m, a, v =>
    if a < cell.1 then (if v = 0 then cell :: m else (a, v) :: cell :: m)
    else if cell.1 = a then (if v = 0 then m else (a, v) :: m)
    else cell :: memWrite m a v

/-- Set every sample of a page to 0 (R62). -/
def memClearPage (m : SampleMem) (page : Nat) : SampleMem := m.filter fun cell => cell.1 / Config.pageSize != page

/-- Set every sample of the pages to 0 (R62). -/
def memClearPages (m : SampleMem) (pages : List Nat) : SampleMem := pages.foldl memClearPage m

/-- The canonical form from a least address on. -/
def memWfFrom : Nat → SampleMem → Bool
  | _, [] => true
  | lo, cell :: m => decide (lo ≤ cell.1) && (cell.2 != 0) && memWfFrom (cell.1 + 1) m

/-- The canonical form: addresses strictly rising and no entry equal to what an unlisted address reads as. -/
def memWf (m : SampleMem) : Bool := memWfFrom 0 m

/-- The ring length of a page list (R62). -/
def ringLength (pages : List Nat) : Nat := Config.pageSize * pages.length

/-- The address in the page pool of the history sample of index `i`, which may be negative: the ring position is `i`
modulo the ring length, and its page is an entry of the channel's page list (R63, R65). -/
def historyAddress (pages : List Nat) (i : Int) : Nat :=
  let p := (i % (ringLength pages : Int)).toNat
  Config.pageSize * pages.getD (p / Config.pageSize) 0 + p % Config.pageSize

/-- `x[n - k]` of a channel (R65). -/
def historyRead (m : SampleMem) (pages : List Nat) (n k : Nat) : Sample :=
  memRead m (historyAddress pages ((n : Int) - (k : Int)))

/-- Write `x[n]` (R64). -/
def historyWrite (m : SampleMem) (pages : List Nat) (n : Nat) (x : Sample) : SampleMem :=
  memWrite m (historyAddress pages (n : Int)) x

/-- The input-ring position of the turn of index `n` (R120). -/
def inputPosition (n : Nat) : Nat := n % 1024

/-- `u` at `k` turns before the turn at ring position `p` (R120). -/
def inputRead (ring : SampleMem) (p k : Nat) : Sample :=
  memRead ring (((p : Int) - (k : Int)) % 1024).toNat

end Sys2Proof.Machine
end

