-- ==== Sys2Proof/Machine/Ops.lean ====
section
/-! DEFINITION. The operations every family shares: the accessors of State, the raising of notices (R198), ATTN (R189), the
live counters (R171), the end of a drain (R52), the free order of channels (log entry 4), and the frame a command's meaning
stands in. The part has no exception to take or to return from. -/

namespace Sys2Proof.Machine

/-- What a command answers. -/
abbrev StepResult := Host.Outcome State Fault Refusal

/-! ### Accessors -/

/-- A channel's context. -/
def State.ch (s : State) (c : ChanId) : Channel := s.channels[c.val]

/-- Replace a channel's context. -/
def State.setCh (s : State) (c : ChanId) (x : Channel) : State := { s with channels := s.channels.set c.val x }

/-- Change a channel's context. -/
def State.modCh (s : State) (c : ChanId) (f : Channel → Channel) : State := s.setCh c (f (s.ch c))

/-- The channel a slot is mapped to, none for an unmapped slot (R30). -/
def State.slotOwner (s : State) (sl : SlotId) : Option ChanId := s.highway.slotMap[sl.val]

/-- Set a slot map entry (R30). -/
def State.setSlot (s : State) (sl : SlotId) (e : Option ChanId) : State :=
  { s with highway := { s.highway with slotMap := s.highway.slotMap.set sl.val e } }

/-- Set the value driven in a slot (R21). -/
def State.setDrive (s : State) (sl : SlotId) (x : Sample) : State :=
  { s with highway := { s.highway with drive := s.highway.drive.set sl.val (some x) } }

/-- Change the message link's state. -/
def State.modLink (s : State) (f : Link → Link) : State := { s with link := f s.link }

/-- The profile of a slot 0..7; slot 0 is the fixed default profile (R178). -/
def State.profile (s : State) (k : Nat) : Profile :=
  if h : 1 ≤ k ∧ k ≤ 7 then s.profiles[k - 1] else defaultProfile

/-- A channel number as the channel field of a frame (R190). -/
def chanByte (c : ChanId) : Byte := BitVec.ofNat 8 c.val

/-- The channel field of a device message (R190). -/
def deviceByte : Byte := 0xFF

/-- The channel a channel field names, none above 39 (R38, R72). -/
def chanOf (b : Byte) : Option ChanId := if h : b.toNat < 40 then some ⟨b.toNat, h⟩ else none

/-- The transmit level of a channel (R71). -/
def Channel.level (ch : Channel) : Nat := ch.tx.queue.length

/-- The taps a channel holds of the tap pool, by its params (R67). -/
def Profile.taps (p : Profile) : Nat := p.nearTaps + p.farTaps + p.eqTaps

/-- The pages a channel needs, by its profile (R61). -/
def Profile.pagesNeeded (p : Profile) : Nat := (max p.nearTaps (p.maxDelay + p.farTaps) + 63) / 64 + 1

/-- Whether the highway is in HUNT or LOST (R27). -/
def Highway.hunting (h : Highway) : Bool := decide (h.state ≠ .synced)

/-! ### Notices (R198, R199) -/

/-- The kind byte of a notice (R208). -/
def noticeKind : NoticeBody → Byte
  | .txLow _ => 0x40
  | .txHigh _ => 0x41
  | .trainDone _ _ => 0x42
  | .diverged _ _ => 0x43
  | .surveyDone _ => 0x44
  | .drained _ _ => 0x45
  | .quality _ _ _ _ => 0x46
  | .highway _ _ => 0x50
  | .link _ _ _ => 0x51
  | .started => 0x52

/-- Place a notice: a waiting entry of its kind and channel keeps its place, takes the new content and counts one more
occurrence, up to 255; otherwise a new entry joins the tail (R198). -/
def placeNotice (channel : Byte) (body : NoticeBody) : List Notice → List Notice
  | [] => [⟨channel, 1, body⟩]
  | n :: ns =>
    if n.channel = channel ∧ noticeKind n.body = noticeKind body then
      ⟨channel, min (n.occurrences + 1) 255, body⟩ :: ns
    else n :: placeNotice channel body ns

/-- Raise a notice (R198). -/
def State.raise (s : State) (channel : Byte) (body : NoticeBody) : State :=
  s.modLink fun l => { l with notices := placeNotice channel body l.notices }

/-- Raise a channel notice. -/
def State.raiseCh (s : State) (c : ChanId) (body : NoticeBody) : State := s.raise (chanByte c) body

/-- Raise the HIGHWAY notice with the device frame counter as it stands (R32). -/
def State.raiseHighway (s : State) (cause : HwCause) : State :=
  s.raise deviceByte (.highway cause s.highway.frameCounter)

/-! ### ATTN and the frame of a meaning -/

/-- ATTN is asserted while a reply, a notice, an EQ_BLOCK or an outbound frame is there (R189). -/
def attnDue (l : Link) : Bool :=
  !l.replies.isEmpty || !l.notices.isEmpty || !l.dataQueue.isEmpty || l.outFrame.isSome

/-- ATTN follows the queues at the end of each act (R189; log entry 22). -/
def State.settle (s : State) : State := s.modLink fun l => { l with attn := attnDue l }

/-- The next state of a completed act. -/
def State.done (s : State) : StepResult := .next s.settle

/-- While NRST is held low the part is held in its power-up state and takes no step of its own (R210; log entry 11). -/
def unlessHeld (s : State) (body : StepResult) : StepResult := if s.nrstLow then .next s else body

/-! ### Live counters (R171) -/

/-- Change a channel's counters. -/
def State.count (s : State) (c : ChanId) (f : ChanCounters → ChanCounters) : State :=
  s.modCh c fun ch => { ch with counters := f ch.counters }

/-- Change the device counters. -/
def State.countDev (s : State) (f : DevCounters → DevCounters) : State := { s with device := f s.device }

/-- A TX_BLOCK or REF_BLOCK that no channel could take (R72, R134). -/
def State.countUnbound (s : State) : State :=
  s.countDev fun d => { d with unboundBlocks := d.unboundBlocks + 1 }

/-! ### Pending references and the end of a drain -/

/-- Remove every pending entry as expired, each counted missed (R50, R51, R124). -/
def State.expireAll (s : State) (c : ChanId) : State :=
  s.modCh c fun ch =>
    { ch with
      eq := { ch.eq with pendingRefs := [] }
      counters :=
        { ch.counters with refsMissed := ch.counters.refsMissed + BitVec.ofNat 32 ch.eq.pendingRefs.length } }

/-- A drain ends: the channel becomes HALTED and DRAINED is raised (R52). -/
def State.endDrain (s : State) (c : ChanId) (cause : DrainCause) (expired : Nat) : State :=
  (s.modCh c fun ch => { ch with state := .halted }).raiseCh c (.drained cause expired)

/-- A drain ends with its remaining entries expired (R50, R51). -/
def State.endDrainExpiring (s : State) (c : ChanId) (cause : DrainCause) : State :=
  (s.expireAll c).endDrain c cause (s.ch c).eq.pendingRefs.length

/-! ### The free order of channels (log entry 4) -/

/-- Insert a channel before the first of a rank at or above its own. -/
def insertByRank (rank : ChanId → Nat) (c : ChanId) : List ChanId → List ChanId
  | [] => [c]
  | d :: ds => if rank c ≤ rank d then c :: d :: ds else d :: insertByRank rank c ds

/-- The channels in rising rank. -/
def sortByRank (rank : ChanId → Nat) : List ChanId → List ChanId
  | [] => []
  | c :: cs => insertByRank rank c (sortByRank rank cs)

/-- The channels that satisfy `p`, each once, in the free order of this event. -/
def State.channelsInFreeOrder (s : State) (p : ChanId → Bool) : List ChanId :=
  sortByRank (fun c => Config.turnRank s.choice c.val) ((List.finRange 40).filter p)

/-- The next event reads the next order. -/
def State.nextChoice (s : State) : State := { s with choice := s.choice + 1 }

end Sys2Proof.Machine
end

