-- ==== Sys2Proof/Machine/Flags.lean ====
section
/-! DEFINITION. The code words and flag words of the message layouts (R208, R209): every flags word the part forms, and the
codes of states, modes, causes, statuses and verdicts. -/

namespace Sys2Proof.Machine

/-- A number as a link word (R208). -/
def natWord (n : Nat) : Word := BitVec.ofNat 16 n

/-- A yes-or-no item (R209). -/
def boolWord (b : Bool) : Word := if b then 1 else 0

/-- A 32-bit item: two words, the less significant first (R208). -/
def countWords (n : Count) : List Word := [n.setWidth 16, (n >>> 16).setWidth 16]

/-- An item that may be absent: a presence word and its value word, 0 when absent (R208). -/
def optionWords (n : Option Nat) : List Word :=
  match n with
  | some v => [1, natWord v]
  | none => [0, 0]

/-- The flags word of an EQ_BLOCK: bit 0 SLIP, bit 1 STARVED, bit 2 PROBE, bit 3 ECHO_ADAPT (R208). -/
def blockFlagsWord (f : BlockFlags) : Word :=
  boolWord f.slip ||| boolWord f.starved <<< 1 ||| boolWord f.probe <<< 2 ||| boolWord f.echoAdapt <<< 3

/-- The flags word of a profile: bit 0 auto_checkpoint, bit 1 divergence_guard, the others clear (R177, R209). -/
def profileFlagsWord (p : Profile) : Word := boolWord p.autoCheckpoint ||| boolWord p.divergenceGuard <<< 1

/-- The flags word of a QUALITY notice: bit 0 ERLE, bit 1 MSE (R209). -/
def crossedWord (erle mse : Bool) : Word := boolWord erle ||| boolWord mse <<< 1

/-- Result codes (R209). -/
def resultWord : ResultCode → Word
  | .ok => 0
  | .adjusted => 1
  | .malformed => 2
  | .noChannel => 3
  | .wrongState => 4
  | .slotBusy => 5
  | .noTaps => 6
  | .noPages => 7
  | .badProfile => 8
  | .locked => 9
  | .late => 10
  | .already => 11
  | .notFound => 12
  | .unknownKind => 13

/-- Echo mode and then-mode codes (R209). -/
def echoModeWord : EchoMode → Word
  | .hold => 0
  | .train => 1
  | .track => 2

/-- Eq mode codes (R209). -/
def eqModeWord : EqMode → Word
  | .bypass => 0
  | .hold => 1
  | .train => 2
  | .track => 3

/-- Tap set codes (R209). -/
def tapSetWord : TapSet → Word
  | .near => 0
  | .far => 1
  | .eq => 2
  | .ckNear => 3
  | .ckFar => 4

/-- Channel state codes (R209). -/
def chanStateWord : ChanState → Word
  | .free => 0
  | .opened => 1
  | .draining => 2
  | .halted => 3

/-- Highway state codes (R209). -/
def hwStateWord : HwState → Word
  | .hunt => 0
  | .synced => 1
  | .lost => 2

/-- Survey state codes (R209). -/
def surveyStateWord : SurveyState → Word
  | .noSurvey => 0
  | .queued => 1
  | .running => 2

/-- Survey status codes (R209). -/
def surveyStatusWord : SurveyStatus → Word
  | .found => 0
  | .weak => 1
  | .slipped => 2
  | .cancelled => 3

/-- Verdict codes (R209). -/
def verdictWord : Verdict → Word
  | .pass => 0
  | .fail => 1
  | .notMeasured => 2

/-- Arming codes (R209). -/
def armingWord : Arming → Word
  | .disarmed => 0
  | .armed => 1

/-- HIGHWAY cause codes (R209). -/
def hwCauseWord : HwCause → Word
  | .sync => 0
  | .lost => 1
  | .slip => 2

/-- LINK cause codes (R209). -/
def linkCauseWord : LinkCause → Word
  | .badFrame => 0
  | .requestDropped => 1

/-- DRAINED cause codes (R209). -/
def drainCauseWord : DrainCause → Word
  | .empty => 0
  | .timeout => 1
  | .lineLost => 2

/-- DIVERGED restored codes (R209). -/
def restoredWord : Restored → Word
  | .checkpoint => 0
  | .zero => 1

/-- The words of a survey record, item by item in the order of R152; each figure and the applied delay may be absent and
carries a presence word (R152, R208; log entry 15). -/
def recordWords (r : SurveyRecord) : List Word :=
  [surveyStatusWord r.status, natWord r.lo, natWord r.hi, natWord r.lagCount, boolWord r.probe, natWord r.restarts]
    ++ optionWords (r.figures.map (·.peakLag)) ++ optionWords (r.figures.map (·.peakLevel))
    ++ optionWords (r.figures.map (·.secondLevel)) ++ optionWords (r.figures.map (·.confidence))
    ++ optionWords r.appliedDelay

/-- A record that may be absent: a presence word and the record's words, 0 when it is absent (R155, R208; log entry 16). -/
def optionRecordWords (r : Option SurveyRecord) : List Word :=
  match r with
  | some r => 1 :: recordWords r
  | none => List.replicate 17 0

/-- The content words of a notice, after its occurrences word (R208; log entry 14). -/
def noticeWords : NoticeBody → List Word
  | .txLow level => [natWord level]
  | .txHigh level => [natWord level]
  | .trainDone mode taken => [echoModeWord mode, boolWord taken]
  | .diverged restored delay => [restoredWord restored, natWord delay]
  | .surveyDone r => recordWords r
  | .drained cause expired => [drainCauseWord cause, natWord expired]
  | .quality erleCrossed mseCrossed erle mse =>
    crossedWord erleCrossed mseCrossed :: (optionWords erle ++ optionWords mse)
  | .highway cause frame => hwCauseWord cause :: countWords frame
  | .link cause kind tag => [linkCauseWord cause, kind.setWidth 16, tag.setWidth 16]
  | .started => [natWord Config.partCode, natWord Config.revision]

/-- The seventeen fields of a profile as words, in the order of R177. -/
def profileWords (p : Profile) : List Word :=
  [natWord p.nearTaps, natWord p.farTaps, natWord p.maxDelay, natWord p.eqTaps, natWord p.blockSize,
    natWord p.echoTrainShift, natWord p.echoTrackShift, natWord p.eqTrainShift, natWord p.eqTrackShift,
    natWord p.refWindow, natWord p.txStart, natWord p.txLow, natWord p.txHigh, natWord p.erleMin, natWord p.mseMin,
    natWord p.surveyMinConf, profileFlagsWord p]

/-- The twelve counters of a channel, in the order of R171. -/
def chanCounterWords (k : ChanCounters) : List Word :=
  countWords k.txSamplesStarved ++ countWords k.txBlocksDropped ++ countWords k.eqBlocksSent
    ++ countWords k.eqBlocksDropped ++ countWords k.refsApplied ++ countWords k.refsErased ++ countWords k.refsLate
    ++ countWords k.refsMissed ++ countWords k.refsUnknown ++ countWords k.divergeEvents
    ++ countWords k.trainCompletions ++ countWords k.surveysDone

/-- The six device counters, in the order of R171. -/
def devCounterWords (d : DevCounters) : List Word :=
  countWords d.frames ++ countWords d.slips ++ countWords d.syncLosses ++ countWords d.linkBadFrames
    ++ countWords d.linkRequestsDropped ++ countWords d.unboundBlocks

/-- The words of an EQ_BLOCK's payload (R208). -/
def eqBlockWords (b : EqBlock) : List Word :=
  [b.seq, blockFlagsWord b.flags, echoModeWord b.echoMode, eqModeWord b.eqMode] ++ b.outputs

end Sys2Proof.Machine
end

