-- ==== Sys2Proof/Machine/Transmit.lean ====
section
/-! DEFINITION. The transmit path (section 5 of the spec): taking a TX_BLOCK's samples (R72 to R74), choosing the transmit
sample of a turn (R76 to R79), and the watermark armings (R81, R82). -/

namespace Sys2Proof.Machine

/-- What a change of the queue raises besides the new context: the level of a TX_LOW or TX_HIGH notice. -/
structure TxEffect where
  channel : Channel
  notice : Option NoticeBody
deriving DecidableEq, Repr

/-- The low arming after an arrival (R81). -/
def lowArmAfterArrival (p : Profile) (level : Nat) (arm : Arming) : Arming :=
  if p.txLow ≤ level then .armed else arm

/-- Samples join the tail of the queue; the watermark checks of an arrival run on the new level (R74, R81, R82). -/
def appendSamples (ch : Channel) (samples : List Sample) : TxEffect :=
  let queue := ch.tx.queue ++ samples
  let high := decide (ch.params.txHigh < queue.length) && decide (ch.tx.highArm = .armed)
  { channel :=
      { ch with tx :=
          { ch.tx with
            queue := queue
            lowArm := lowArmAfterArrival ch.params queue.length ch.tx.lowArm
            highArm := if high then .disarmed else ch.tx.highArm } }
    notice := if high then some (.txHigh queue.length) else none }

/-- The head of the queue is taken and the watermark checks of a pop run on the new level (R78, R81, R82). -/
def popSample (ch : Channel) (rest : List Sample) : TxEffect :=
  let low := decide (rest.length < ch.params.txLow) && decide (ch.tx.lowArm = .armed)
  { channel :=
      { ch with tx :=
          { ch.tx with
            queue := rest
            state := .running
            lowArm := if low then .disarmed else ch.tx.lowArm
            highArm := if rest.length ≤ ch.params.txHigh then .armed else ch.tx.highArm } }
    notice := if low then some (.txLow rest.length) else none }

/-- A RUNNING channel finds its queue empty (R79). -/
def starve (ch : Channel) : Channel :=
  { ch with
    tx := { ch.tx with state := .priming }
    eq := { ch.eq with flags := { ch.eq.flags with starved := true } }
    counters := { ch.counters with txSamplesStarved := ch.counters.txSamplesStarved + 1 } }

/-- The transmit sample of a turn, the context after stage 1, and the notice it raises. -/
structure TxChoice where
  channel : Channel
  sample : Sample
  notice : Option NoticeBody
deriving DecidableEq, Repr

/-- The probe output is the turn's sample (R17, R84). -/
def chooseProbe (ch : Channel) : TxChoice where
  channel :=
    { ch with
      tx := { ch.tx with probe := (probeStep ch.tx.probe).2 }
      eq := { ch.eq with flags := { ch.eq.flags with probe := true } } }
  sample := probeSample (probeStep ch.tx.probe).1
  notice := none

/-- A turn that takes its sample from the queue, or starves (R78, R79). -/
def chooseQueue (ch : Channel) : TxChoice :=
  match ch.tx.queue with
  | [] => ⟨starve ch, 0, none⟩
  | x :: rest => ⟨(popSample ch rest).channel, x, (popSample ch rest).notice⟩

/-- Stage 1 of a turn: the probe, silence or the queue (R76, R77). -/
def chooseSample (ch : Channel) (probing : Bool) : TxChoice :=
  if probing then chooseProbe ch
  else
    match ch.tx.state with
    | .running => chooseQueue ch
    | .priming => if ch.params.txStart ≤ ch.level then chooseQueue ch else ⟨ch, 0, none⟩

/-- Raise a channel notice when there is one. -/
def State.raiseOpt (s : State) (c : ChanId) : Option NoticeBody → State
  | none => s
  | some body => s.raiseCh c body

/-- The samples of a data block's payload, least significant byte first (R208). -/
def payloadWords : List Byte → List Word
  | lo :: hi :: rest => (hi ++ lo) :: payloadWords rest
  | _ => []

/-- A TX_BLOCK for a channel 0..39 (R72 to R74). -/
def takeTxBlock (s : State) (c : ChanId) (payload : List Byte) : State :=
  let ch := s.ch c
  if ch.state ≠ .opened then s.countUnbound
  else if payload.length ≠ 2 * ch.params.blockSize then
    s.count c fun k => { k with txBlocksDropped := k.txBlocksDropped + 1 }
  else if Config.txQueueMax < ch.level + ch.params.blockSize then
    s.count c fun k => { k with txBlocksDropped := k.txBlocksDropped + 1 }
  else
    let e := appendSamples ch (payloadWords payload)
    (s.setCh c e.channel).raiseOpt c e.notice

/-- A TX_BLOCK arrives (R72). -/
def arriveTxBlock (s : State) (f : Frame) : State :=
  match chanOf f.channel with
  | none => s.countUnbound
  | some c => takeTxBlock s c f.payload

end Sys2Proof.Machine
end

