-- ==== Sys2Proof/Machine/Operands.lean ====
section
/-! DEFINITION. The operands of requests: reading the words and codes of a payload (R208, R209), the frame checks every
request passes (R195), and the reply every taken request gets (R195, R196). -/

namespace Sys2Proof.Machine

/-- The word at a position of a request's payload (R208). -/
def Frame.word (f : Frame) (k : Nat) : Word := (payloadWords f.payload).getD k 0

/-- The word at a position as an unsigned value. -/
def Frame.value (f : Frame) (k : Nat) : Nat := (f.word k).toNat

/-- A flag bit of the word at a position. -/
def Frame.flag (f : Frame) (k bit : Nat) : Bool := (f.word k).getLsbD bit

/-- The echo mode a code names (R209). -/
def echoModeOf (code : Nat) : Option EchoMode :=
  match code with
  | 0 => some .hold
  | 1 => some .train
  | 2 => some .track
  | _ => none

/-- The eq mode a code names (R209). -/
def eqModeOf (code : Nat) : Option EqMode :=
  match code with
  | 0 => some .bypass
  | 1 => some .hold
  | 2 => some .train
  | 3 => some .track
  | _ => none

/-- The tap set a code names (R209). -/
def tapSetOf (code : Nat) : Option TapSet :=
  match code with
  | 0 => some .near
  | 1 => some .far
  | 2 => some .eq
  | 3 => some .ckNear
  | 4 => some .ckFar
  | _ => none

/-- The slot a slot field names (R39). -/
def slotOf (v : Nat) : Option SlotId := if h : v < 64 then some ⟨v, h⟩ else none

/-- The start a tap access carries, none for 0xFFFF (R209). -/
def startOf (w : Word) : Option Nat := if w = 0xFFFF then none else some w.toNat

/-- What carrying out a request gives: the state after its effects, and its reply's code and items (R195, R196). -/
structure Answer where
  state : State
  code : ResultCode
  items : List Word
deriving DecidableEq, Repr

/-- A refused request changes nothing (R195). -/
def refuse (s : State) (code : ResultCode) : Answer := ⟨s, code, []⟩

/-- The kind byte of a reply: its request's plus 0x80 (R196). -/
def replyKind (f : Frame) : Byte := f.kind + 0x80

/-- Place a reply at the tail of the reply queue (R195, R196). -/
def State.placeReply (s : State) (r : Reply) : State := s.modLink fun l => { l with replies := l.replies ++ [r] }

/-- Take the request at the head: the request leaves the queue, acts, and its one reply is placed after its effects
(R195). -/
def State.takeHead (s : State) (f : Frame) (rest : List Frame) (kind : Byte) (act : State → Frame → Answer) : State :=
  let a := act (s.modLink fun l => { l with requests := rest }) f
  a.state.placeReply ⟨kind, f.channel, f.tag, a.code, a.items⟩

/-- A request row: the request at the head of the queue must be one of the row's. While the reply queue is full the
request processor takes none and the request waits (R195; log entry 19). -/
def takeRequest (s : State) (mine : Frame → Bool) (kind : Frame → Byte) (act : State → Frame → Answer) : StepResult :=
  unlessHeld s <|
    match s.link.requests with
    | [] => .refused .requestNotAtHead
    | f :: rest =>
      if mine f then
        if s.link.replies.length < Config.replyMax then (s.takeHead f rest (kind f) act).done else .next s
      else .refused .requestNotAtHead

/-- A row of one request kind. -/
def takeKind (code : Byte) (act : State → Frame → Answer) (s : State) : StepResult :=
  takeRequest s (fun f => f.kind == code) replyKind act

/-- A device request: the payload length, then its own checks; the channel field is not read (R195). -/
def deviceRequest (lengthOk : Nat → Bool) (act : State → Frame → Answer) (s : State) (f : Frame) : Answer :=
  if lengthOk f.payload.length then act s f else refuse s .malformed

/-- A channel request: the channel field, the payload length, then its own checks (R38, R195). -/
def channelRequest (lengthOk : Nat → Bool) (act : State → Frame → ChanId → Answer) (s : State) (f : Frame) : Answer :=
  match chanOf f.channel with
  | none => refuse s .noChannel
  | some c => if lengthOk f.payload.length then act s f c else refuse s .malformed

/-- A fixed payload length (R209). -/
def lengthIs (n : Nat) (len : Nat) : Bool := len == n

/-- The state check of R38. -/
def inStates (s : State) (c : ChanId) (states : List ChanState) (a : Answer) : Answer :=
  if (s.ch c).state ∈ states then a else refuse s .wrongState

end Sys2Proof.Machine
end

