-- ==== Sys2Proof/Machine/Echo.lean ====
section
/-! DEFINITION. The echo canceller (section 6 of the spec): the tap update of a turn (R7, R90), the train count (R95 to
R97), the divergence check and action (R103, R104), checkpoints (R106 to R108). -/

namespace Sys2Proof.Machine

/-- The shift of the echo mode (R90). HOLD makes no update. -/
def echoShift (ch : Channel) : Nat :=
  match ch.echo.mode with
  | .track => ch.params.echoTrackShift
  | .train | .hold => ch.params.echoTrainShift

/-- The mode adapts and no guard withholds it (R7, R90, R101). -/
def echoAdapts (ch : Channel) : Bool := decide (ch.echo.mode ≠ .hold) && decide (ch.echo.guard = 0)

/-- The update of every near and far tap, and the ECHO_ADAPT flag (R7, R90). `x` reads the history by lag. -/
def echoUpdate (ch : Channel) (x : Nat → Sample) (r : Sample) : Channel :=
  if echoAdapts ch then
    { ch with
      echo :=
        { ch.echo with
          near := adaptFrom r (14 + echoShift ch) x 0 ch.echo.near
          far := adaptFrom r (14 + echoShift ch) x ch.echo.delay ch.echo.far }
      eq := { ch.eq with flags := { ch.eq.flags with echoAdapt := true } } }
  else ch

/-- The residual of a turn, from the taps in force at its start (R5, R6). -/
def turnResidual (ch : Channel) (x : Nat → Sample) (rx : Sample) : Sample :=
  residual rx (echoEstimate ch.echo.near ch.echo.far ch.echo.delay x)

/-- The checkpoint of the taps and D as they stand (R106). -/
def takeCheckpoint (ch : Channel) : Channel :=
  { ch with echo := { ch.echo with checkpoint := some ⟨ch.echo.near, ch.echo.far, ch.echo.delay⟩ } }

/-- Copy a checkpoint's taps and D into the echo state; the record is kept (R104, R108). -/
def loadCheckpoint (ch : Channel) (k : Checkpoint) : Channel :=
  { ch with echo := { ch.echo with near := k.near, far := k.far, delay := k.delay } }

/-- Training ends: the then-mode is entered and, with auto_checkpoint, a checkpoint is taken (R96). -/
def expiredTraining (ch : Channel) : Channel :=
  let ch' := { ch with echo := { ch.echo with mode := ch.echo.thenMode, trainCount := 0 } }
  if ch.params.autoCheckpoint then takeCheckpoint ch' else ch'

/-- Training expires: the context of R96, train_completions and TRAIN_DONE (R96, R118). -/
def State.expireTraining (s : State) (c : ChanId) : State :=
  let ch := s.ch c
  ((s.modCh c expiredTraining).raiseCh c (.trainDone ch.echo.thenMode ch.params.autoCheckpoint)).count c
    fun k => { k with trainCompletions := k.trainCompletions + 1 }

/-- The train count takes the pending extension and training goes on (R97). -/
def takenExtension (ch : Channel) (extension : Nat) : Channel :=
  { ch with echo := { ch.echo with trainCount := extension, extension := none } }

/-- The count has reached 0: expiry or extension (R96, R97). -/
def State.trainingAtZero (s : State) (c : ChanId) : State :=
  match (s.ch c).echo.extension with
  | none => s.expireTraining c
  | some n => s.modCh c fun ch => takenExtension ch n

/-- The train count falls by one (R95). -/
def countTraining (ch : Channel) : Channel :=
  { ch with echo := { ch.echo with trainCount := ch.echo.trainCount - 1 } }

/-- The train count step of a turn that began in TRAIN (R95). -/
def State.trainStep (s : State) (c : ChanId) : State :=
  let s' := s.modCh c countTraining
  if (s'.ch c).echo.trainCount = 0 then s'.trainingAtZero c else s'

/-- Stage 4 of a turn after the residual: the update, then the train count step of a turn that began in TRAIN (R45). -/
def echoStage (s : State) (c : ChanId) (x : Nat → Sample) (r : Sample) : State :=
  let s' := s.modCh c fun ch => echoUpdate ch x r
  if (s.ch c).echo.mode = .train then s'.trainStep c else s'

/-- Whether a block boundary counts a divergence strike (R103). -/
def strikeDue (ch : Channel) : Bool :=
  ch.params.divergenceGuard && decide (ch.echo.mode ≠ .hold) && decide (ch.echo.guard = 0)
    && decide (16 ≤ ch.quality.pRx) && decide (2 * ch.quality.pRx ≤ ch.quality.pRes)

/-- Set the divergence strikes. -/
def setStrikes (ch : Channel) (n : Nat) : Channel := { ch with echo := { ch.echo with strikes := n } }

/-- The context after a divergence action (R104). -/
def divergedChannel (ch : Channel) : Channel :=
  let ch' :=
    match ch.echo.checkpoint with
    | some k => loadCheckpoint ch k
    | none =>
      { ch with echo :=
          { ch.echo with
            near := List.replicate ch.echo.near.length 0
            far := List.replicate ch.echo.far.length 0 } }
  { ch' with echo := { ch'.echo with mode := .hold, trainCount := 0, extension := none, strikes := 0 } }

/-- What a divergence action restores (R105). -/
def divergenceRestores (ch : Channel) : Restored :=
  match ch.echo.checkpoint with
  | some _ => .checkpoint
  | none => .zero

/-- The divergence action: the context of R104, DIVERGED and diverge_events (R105). -/
def State.diverge (s : State) (c : ChanId) : State :=
  ((s.modCh c divergedChannel).raiseCh c
      (.diverged (divergenceRestores (s.ch c)) (divergedChannel (s.ch c)).echo.delay)).count c
    fun k => { k with divergeEvents := k.divergeEvents + 1 }

/-- The divergence check of a block boundary (R103, R104). -/
def divergenceCheck (s : State) (c : ChanId) : State :=
  let ch := s.ch c
  let strikes := if strikeDue ch then ch.echo.strikes + 1 else 0
  if 3 ≤ strikes then s.diverge c else s.modCh c fun ch => setStrikes ch strikes

end Sys2Proof.Machine
end

