-- ==== Sys2Proof/Machine/Equalizer.lean ====
section
/-! DEFINITION. The equalizer and the reference loop (section 7 of the spec): the equalizer stage of a turn (R120, R121,
R126), the completion of a block (R128, R129, R132), and the taking of a REF_BLOCK (R134 to R137). -/

namespace Sys2Proof.Machine

/-- The output of a turn, after its own input has been written (R8, R121). -/
def eqOutput (ch : Channel) (ring : SampleMem) (r : Sample) : Sample :=
  match ch.eq.mode with
  | .bypass => r
  | .hold | .train | .track => equalize ch.eq.taps (inputRead ring (inputPosition ch.writeIndex))

/-- Stage 7 of a turn: the input is stored, the output formed and added to the block under assembly (R45, R120, R126). -/
def eqStage (ch : Channel) (r : Sample) : Channel :=
  let ring := memWrite ch.eq.ring (inputPosition ch.writeIndex) r
  { ch with eq :=
      { ch.eq with
        ring := ring
        outputs := ch.eq.outputs ++ [eqOutput ch ring r]
        positions := ch.eq.positions ++ [inputPosition ch.writeIndex] } }

/-- The EQ_BLOCK of the block under assembly (R129). -/
def blockOf (c : ChanId) (ch : Channel) : EqBlock :=
  ⟨c, ch.eq.nextSeq, ch.eq.flags, ch.echo.mode, ch.eq.mode, ch.eq.outputs⟩

/-- Offer an EQ_BLOCK to the outbound data queue (R129, R201). -/
def State.offerBlock (s : State) (b : EqBlock) : State :=
  if s.link.dataQueue.length < Config.dataQueueMax then
    s.modLink fun l => { l with dataQueue := l.dataQueue ++ [b] }
  else s.count b.channel fun k => { k with eqBlocksDropped := k.eqBlocksDropped + 1 }

/-- The pending entry of the block under assembly (R131). -/
def entryOf (ch : Channel) : PendingEntry :=
  ⟨ch.eq.nextSeq, ch.eq.outputs, ch.eq.positions, ch.eq.flags.slip⟩

/-- Make the pending entry of a completed block, expiring the oldest when the list is full; none in BYPASS (R132). -/
def makeEntry (ch : Channel) (e : PendingEntry) : Channel :=
  if ch.eq.mode = .bypass then ch
  else
    let full := decide (ch.params.refWindow ≤ ch.eq.pendingRefs.length)
    { ch with
      eq := { ch.eq with pendingRefs := (if full then ch.eq.pendingRefs.drop 1 else ch.eq.pendingRefs) ++ [e] }
      counters :=
        if full then { ch.counters with refsMissed := ch.counters.refsMissed + 1 } else ch.counters }

/-- The completed block's seq is consumed (R128). -/
def consumeSeq (ch : Channel) : Channel :=
  { ch with eq := { ch.eq with nextSeq := ch.eq.nextSeq + 1, issued := true } }

/-- The block under assembly is completed: seq, EQ_BLOCK, entry (R46, first step of the boundary). The EQ_BLOCK carries the
echo mode before any divergence action (R46, R104, R129; log entry 20). -/
def completeBlock (s : State) (c : ChanId) : State :=
  let ch := s.ch c
  ((s.modCh c consumeSeq).offerBlock (blockOf c ch)).modCh c fun ch' => makeEntry ch' (entryOf ch)

/-- The block under assembly is emptied of outputs and flags (R46, R47). -/
def emptyBlock (ch : Channel) : Channel :=
  { ch with eq := { ch.eq with outputs := [], positions := [], flags := BlockFlags.clear } }

/-! ### References -/

/-- The shift of the eq mode (R9, R122). -/
def eqShift (ch : Channel) : Nat :=
  match ch.eq.mode with
  | .track => ch.params.eqTrackShift
  | .train | .hold | .bypass => ch.params.eqTrainShift

/-- The update of one sample: error, taps, P_err and error count (R9, R137). -/
def applyError (q : Nat) (ch : Channel) (d y : Sample) (position : Nat) : Channel :=
  let e := saturate (d.toInt - y.toInt)
  { ch with
    eq := { ch.eq with taps := adaptFrom e q (inputRead ch.eq.ring position) 0 ch.eq.taps }
    quality :=
      { ch.quality with
        pErr := powerStep ch.quality.pErr e
        errorCount := min (ch.quality.errorCount + 1) Config.errorsMeasured } }

/-- The update of a matched entry, sample by sample in ascending order (R9, R137). -/
def applyErrors (q : Nat) : Channel → List Sample → List Sample → List Nat → Channel
  | ch, d :: ds, y :: ys, p :: ps => applyErrors q (applyError q ch d y p) ds ys ps
  | ch, _, _, _ => ch

/-- The class of a reference (R135). -/
inductive RefClass where | isMatch | isLate | isUnknown
deriving DecidableEq, Repr

/-- Classify a reference by its seq (R135). -/
def classifyRef (ch : Channel) (seq : Word) : RefClass :=
  if ch.eq.pendingRefs.any fun e => e.seq == seq then .isMatch
  else if ch.eq.issued ∧ (ch.eq.nextSeq - 1 - seq).toNat < 32768 then .isLate
  else .isUnknown

/-- The entries older than the one with a seq (R136). -/
def olderEntries (seq : Word) (l : List PendingEntry) : List PendingEntry := l.takeWhile fun e => e.seq != seq

/-- The entry with a seq and the newer ones (R136). -/
def fromEntry (seq : Word) (l : List PendingEntry) : List PendingEntry := l.dropWhile fun e => e.seq != seq

/-- A matched entry's own effect: ERASE, the update, or nothing (R136). -/
def consumeEntry (ch : Channel) (e : PendingEntry) (erase : Bool) (refs : List Sample) : Channel :=
  if erase then { ch with counters := { ch.counters with refsErased := ch.counters.refsErased + 1 } }
  else if ch.eq.mode = .train ∨ ch.eq.mode = .track then
    let ch' := applyErrors (12 + eqShift ch) ch refs e.outputs e.positions
    { ch' with counters := { ch'.counters with refsApplied := ch'.counters.refsApplied + 1 } }
  else ch

/-- A MATCH: the older entries leave as missed, the entry leaves with its effect (R136). -/
def matchRef (ch : Channel) (seq : Word) (erase : Bool) (refs : List Sample) : Channel :=
  match fromEntry seq ch.eq.pendingRefs with
  | [] => ch
  | e :: newer =>
    consumeEntry
      { ch with
        eq := { ch.eq with pendingRefs := newer }
        counters :=
          { ch.counters with
            refsMissed :=
              ch.counters.refsMissed + BitVec.ofNat 32 (olderEntries seq ch.eq.pendingRefs).length } }
      e erase refs

/-- A DRAINING channel whose list a match has emptied ends its drain (R49, R136). -/
def State.drainIfEmpty (s : State) (c : ChanId) : State :=
  if (s.ch c).state = .draining ∧ (s.ch c).eq.pendingRefs = [] then s.endDrain c .empty 0 else s

/-- A REF_BLOCK of the right length acts by its class (R135, R136). -/
def actOnRef (s : State) (c : ChanId) (seq : Word) (erase : Bool) (refs : List Sample) : State :=
  match classifyRef (s.ch c) seq with
  | .isMatch => (s.modCh c fun ch => matchRef ch seq erase refs).drainIfEmpty c
  | .isLate => s.count c fun k => { k with refsLate := k.refsLate + 1 }
  | .isUnknown => s.count c fun k => { k with refsUnknown := k.refsUnknown + 1 }

/-- A REF_BLOCK for a channel 0..39 (R134). -/
def takeRefBlock (s : State) (c : ChanId) (payload : List Byte) : State :=
  let ch := s.ch c
  if ch.state ≠ .opened ∧ ch.state ≠ .draining then s.countUnbound
  else if payload.length ≠ 4 + 2 * ch.params.blockSize then
    s.count c fun k => { k with refsUnknown := k.refsUnknown + 1 }
  else
    let words := payloadWords payload
    actOnRef s c (words.getD 0 0) ((words.getD 1 0).getLsbD 0) (words.drop 2)

/-- A REF_BLOCK arrives (R134). -/
def arriveRefBlock (s : State) (f : Frame) : State :=
  match chanOf f.channel with
  | none => s.countUnbound
  | some c => takeRefBlock s c f.payload

end Sys2Proof.Machine
end

