-- ==== Sys2Proof/Machine/Quality.lean ====
section
/-! DEFINITION. Line quality (section 9 of the spec): the power stage of a turn (R162), slip turns (R163), verdicts (R164)
and the crossing check of a block boundary (R167 to R169). -/

namespace Sys2Proof.Machine

/-- Stage 6 of a turn (R162). -/
def powerStage (ch : Channel) (rx r : Sample) : Channel :=
  { ch with quality :=
      { ch.quality with pRx := powerStep ch.quality.pRx rx, pRes := powerStep ch.quality.pRes r } }

/-- A turn at a slipped frame end counts in the slip turns, up to 65535 (R163). -/
def countSlipTurn (ch : Channel) : Channel :=
  { ch with quality := { ch.quality with slipTurns := min (ch.quality.slipTurns + 1) 65535 } }

/-- The ERLE value of a channel, none while not measured (R164). -/
def Channel.erle (ch : Channel) : Option Nat := erleValue ch.quality.pRx ch.quality.pRes

/-- The MSE value of a channel, none while not measured (R164). -/
def Channel.mse (ch : Channel) : Option Nat := mseValue ch.quality.pErr ch.quality.errorCount

/-- The verdict of a value against a threshold (R164). -/
def verdict (value : Option Nat) (threshold : Nat) : Verdict :=
  match value with
  | none => .notMeasured
  | some v => if threshold ≤ v then .pass else .fail

/-- The level at which an arming returns (R168). -/
def rearmLevel (threshold : Nat) : Nat := min (threshold + 3) 45

/-- The crossing check of one value: its new arming, and whether it is a crossing (R168). -/
def crossing (arm : Arming) (value : Option Nat) (threshold : Nat) : Arming × Bool :=
  match arm, value with
  | .armed, some v => if v < threshold then (.disarmed, true) else (.armed, false)
  | .disarmed, some v => if rearmLevel threshold ≤ v then (.armed, false) else (.disarmed, false)
  | arm, none => (arm, false)

/-- The crossing check of ERLE, skipped in TRAIN (R167). -/
def erleCrossing (ch : Channel) : Arming × Bool :=
  if ch.echo.mode = .train then (ch.quality.erleArm, false)
  else crossing ch.quality.erleArm ch.erle ch.params.erleMin

/-- The crossing check of MSE, made in TRACK alone (R167). -/
def mseCrossing (ch : Channel) : Arming × Bool :=
  if ch.eq.mode = .track then crossing ch.quality.mseArm ch.mse ch.params.mseMin
  else (ch.quality.mseArm, false)

/-- The crossing check of a block boundary and its one QUALITY notice (R167 to R169). -/
def qualityCheck (s : State) (c : ChanId) : State :=
  let ch := s.ch c
  let s' := s.modCh c fun ch' =>
    { ch' with quality := { ch'.quality with erleArm := (erleCrossing ch).1, mseArm := (mseCrossing ch).1 } }
  if (erleCrossing ch).2 || (mseCrossing ch).2 then
    s'.raiseCh c (.quality (erleCrossing ch).2 (mseCrossing ch).2 ch.erle ch.mse)
  else s'

end Sys2Proof.Machine
end

