-- ==== Sys2Proof/Machine/Survey.lean ====
section
/-! DEFINITION. The delay survey unit (section 8 of the spec): grants (R146, R147), the survey's share of a turn (R148,
R149, R153), its ends (R150 to R152, R155) and the lag range of a request (R144). -/

namespace Sys2Proof.Machine

/-- The four correlator numbers, lowest first. -/
def correlatorIds : List (Fin 4) := [0, 1, 2, 3]

/-- A correlator's content, none while it is idle. -/
def Dsu.unit (d : Dsu) (i : Fin 4) : Option Correlator := d.correlators[i.val]

/-- Set a correlator's content. -/
def State.setUnit (s : State) (i : Fin 4) (k : Option Correlator) : State :=
  { s with dsu := { s.dsu with correlators := s.dsu.correlators.set i.val k } }

/-- The correlator that holds a channel's survey (R143). -/
def Dsu.unitOf (d : Dsu) (c : ChanId) : Option (Fin 4) :=
  correlatorIds.find? fun i => match d.unit i with
    | some k => decide (k.entry.channel = c)
    | none => false

/-- The lowest-numbered idle correlator (R146). -/
def Dsu.idleUnit (d : Dsu) : Option (Fin 4) := correlatorIds.find? fun i => (d.unit i).isNone

/-- Whether a channel is in its probe phase: it holds a correlator whose survey carries PROBE (R84). -/
def Dsu.probing (d : Dsu) (c : ChanId) : Bool :=
  match d.unitOf c with
  | some i => match d.unit i with
    | some k => k.entry.probe
    | none => false
  | none => false

/-- A correlator as it is granted (R147). The count of the phase it is not in, which R147 does not give, is 0 (DESIGN CHOICE,
log entry 26). -/
def grantedCorrelator (e : SurveyEntry) : Correlator where
  entry := e
  phase := if e.probe then .leadIn else .window
  leadIn := 0
  window := 0
  restarts := 0
  sums := List.replicate e.lagCount 0

/-- Grant a correlator to a survey that has left the queue; a probing survey starts the probe from all ones (R17, R147). -/
def State.grant (s : State) (i : Fin 4) (e : SurveyEntry) : State :=
  (s.setUnit i (some (grantedCorrelator e))).modCh e.channel fun ch =>
    { ch with
      survey := .running
      tx := { ch.tx with probe := if e.probe then BitVec.allOnes 15 else ch.tx.probe } }

/-- The correlator arbiter: while a correlator is idle and the queue is not empty, the oldest entry is granted the
lowest-numbered idle correlator (R146). At most four can be idle. -/
def State.grantUpTo : Nat → State → State
  | 0, s => s
  | n + 1, s =>
    match s.dsu.queue, s.dsu.idleUnit with
    | e :: rest, some i => State.grantUpTo n (State.grant { s with dsu := { s.dsu with queue := rest } } i e)
    | _, _ => s

/-- The arbiter runs (R146). -/
def State.runArbiter (s : State) : State := State.grantUpTo 4 s

/-- The record of a survey that ended without figures (R152). -/
def plainRecord (status : SurveyStatus) (e : SurveyEntry) (restarts : Nat) : SurveyRecord :=
  ⟨status, e.lo, e.hi, e.lagCount, e.probe, restarts, none, none⟩

/-- A survey ends with a record: it becomes the last result, SURVEY_DONE is raised, surveys_done increases by one and the
survey state becomes NONE (R150, R153, R155). -/
def State.recordSurvey (s : State) (c : ChanId) (r : SurveyRecord) : State :=
  (s.modCh c fun ch =>
    { ch with
      survey := .noSurvey
      lastResult := some r
      counters := { ch.counters with surveysDone := ch.counters.surveysDone + 1 } }).raiseCh c (.surveyDone r)

/-- A running survey ends with a record; its correlator becomes idle and passes on (R146). -/
def State.endRunning (s : State) (c : ChanId) (i : Fin 4) (r : SurveyRecord) : State :=
  ((s.recordSurvey c r).setUnit i none).runArbiter

/-- A FOUND result with APPLY sets D and zeroes the far taps (R151). -/
def applyResult (ch : Channel) (peakLag : Nat) : Channel :=
  { ch with echo :=
      { ch.echo with
        delay := appliedDelay ch.params.maxDelay peakLag
        far := List.replicate ch.echo.far.length 0 } }

/-- The record of a completed window (R15, R150, R152). -/
def windowRecord (ch : Channel) (k : Correlator) : SurveyRecord :=
  let figures := surveyFigures k.entry.lo k.sums
  let found := decide (ch.params.surveyMinConf ≤ figures.confidence)
  { status := if found then .found else .weak
    lo := k.entry.lo
    hi := k.entry.hi
    lagCount := k.entry.lagCount
    probe := k.entry.probe
    restarts := k.restarts
    figures := some figures
    appliedDelay :=
      if found && k.entry.apply then some (appliedDelay ch.params.maxDelay figures.peakLag) else none }

/-- The window of a correlator ends: figures, application, record, notice, grant (R150). -/
def State.endWindow (s : State) (c : ChanId) (i : Fin 4) (k : Correlator) : State :=
  let r := windowRecord (s.ch c) k
  let applied := s.modCh c fun ch =>
    match r.appliedDelay, r.figures with
    | some _, some f => applyResult ch f.peakLag
    | _, _ => ch
  applied.endRunning c i r

/-- The lead-in ends: the phase becomes WINDOW with window count 0 (R148). -/
def leadInDone (k : Correlator) : Correlator := { k with phase := .window, window := 0 }

/-- A lead-in turn (R148). -/
def leadInTurn (k : Correlator) : Correlator :=
  let k' := { k with leadIn := k.leadIn + 1 }
  if k'.leadIn = Config.leadInTurns then leadInDone k' else k'

/-- A window begins again with every sum 0 (R28, R153). -/
def restartWindow (k : Correlator) : Correlator := { k with window := 0, sums := k.sums.map fun _ => 0 }

/-- A window turn adds its products (R149). -/
def windowTurn (k : Correlator) (x : Nat → Sample) (r : Sample) : Correlator :=
  { k with window := k.window + 1, sums := addProducts x r k.entry.lo k.sums }

/-- Stage 5 of a turn for the correlator that holds the channel's survey (R148, R149, R153). `x` reads the history by lag. -/
def surveyTurn (s : State) (c : ChanId) (i : Fin 4) (k : Correlator) (x : Nat → Sample) (r : Sample)
    (slipped : Bool) : State :=
  match k.phase with
  | .leadIn => s.setUnit i (some (leadInTurn k))
  | .window =>
    if slipped then
      let k' := { restartWindow k with restarts := k.restarts + 1 }
      if k'.restarts < Config.restartLimit then s.setUnit i (some k')
      else s.endRunning c i (plainRecord .slipped k.entry k'.restarts)
    else
      let k' := windowTurn k x r
      if k'.window = Config.windowTurns then s.endWindow c i k' else s.setUnit i (some k')

/-- Stage 5 of a turn (R45). -/
def surveyStage (s : State) (c : ChanId) (x : Nat → Sample) (r : Sample) (slipped : Bool) : State :=
  match s.dsu.unitOf c with
  | none => s
  | some i => match s.dsu.unit i with
    | none => s
    | some k => surveyTurn s c i k x r slipped

/-- The queue without a channel's entry; the others keep their order (R146). -/
def dropEntry (c : ChanId) (queue : List SurveyEntry) : List SurveyEntry :=
  queue.filter fun e => decide (e.channel ≠ c)

/-- Take a channel's entry out of the survey queue. -/
def State.unqueue (s : State) (c : ChanId) : State :=
  { s with dsu := { s.dsu with queue := dropEntry c s.dsu.queue } }

/-- The record a cancelled survey ends with, none when the channel has no survey (R155). -/
def cancelRecord (s : State) (c : ChanId) : Option SurveyRecord :=
  match (s.ch c).survey with
  | .noSurvey => none
  | .queued => (s.dsu.queue.find? fun e => decide (e.channel = c)).map fun e => plainRecord .cancelled e 0
  | .running =>
    (s.dsu.unitOf c).bind fun i => (s.dsu.unit i).map fun k => plainRecord .cancelled k.entry k.restarts

/-- Free the correlator that holds a channel's survey, if one does, and let it pass on (R146). -/
def State.freeUnit (s : State) (c : ChanId) : State :=
  match s.dsu.unitOf c with
  | none => s
  | some i => (s.setUnit i none).runArbiter

/-- A channel's survey, queued or running, stops: its entry leaves the queue, or its correlator passes on (R155, R158). -/
def State.withdrawSurvey (s : State) (c : ChanId) : State := (s.unqueue c).freeUnit c

/-- A channel's survey is cancelled with a record (R155, R157). -/
def State.cancelSurvey (s : State) (c : ChanId) : State :=
  match cancelRecord s c with
  | none => s
  | some r => (s.recordSurvey c r).withdrawSurvey c

/-- At acquisition a window that had begun begins again; its restart count is unchanged (R28, R154). -/
def restartAtAcquisition (k : Correlator) : Correlator :=
  match k.phase with
  | .leadIn => k
  | .window => restartWindow k

/-- Every running survey at acquisition (R28). -/
def State.restartSurveys (s : State) : State :=
  { s with dsu :=
      { s.dsu with correlators := Vector.ofFn fun i => (s.dsu.unit i).map restartAtAcquisition } }

/-- The lags of a survey request (R144): the survey entry its lag range gives. -/
def surveyEntryFor (c : ChanId) (maxDelay lo hi : Nat) (probe apply : Bool) : SurveyEntry :=
  let lo' := min lo maxDelay
  let hi' := max lo' (min hi maxDelay)
  let count := min ((hi' - lo') / 4 + 1) Config.lagMax
  ⟨c, lo', lo' + 4 * (count - 1), count, probe, apply⟩

end Sys2Proof.Machine
end

