-- ==== Sys2Proof/Machine/Turn.lean ====
section
/-! DEFINITION. The sample turn of an OPEN channel, its stages in order (R43 to R46), and the work of every channel at a
frame end (R20, R23, R24, R48, R50). -/

namespace Sys2Proof.Machine

/-- A history reader by lag, for the turn of index `n` (R65). -/
def State.history (s : State) (c : ChanId) (k : Nat) : Sample :=
  historyRead s.pageMem (s.ch c).pages (s.ch c).writeIndex k

/-- Stages 1 and 2: the transmit sample is chosen, written to history and fixed for the slot (R44). -/
def transmitStage (s : State) (c : ChanId) (sl : SlotId) : State :=
  let t := chooseSample (s.ch c) (s.dsu.probing c)
  let s1 := (s.setCh c t.channel).raiseOpt c t.notice
  let s2 := { s1 with pageMem := historyWrite s1.pageMem (s.ch c).pages (s.ch c).writeIndex t.sample }
  s2.setDrive sl t.sample

/-- The receive sample of a turn: the slot's, or the held one at a slipped frame end (R22, R44). -/
def turnRx (ch : Channel) (rx : Option Sample) : Sample := rx.getD ch.heldRx

/-- What a slipped frame end changes before the echo stage: the guard, the SLIP flag, the slip turns (R24, R163). -/
def slipChannel (ch : Channel) : Channel :=
  countSlipTurn
    { ch with
      echo := { ch.echo with guard := Config.guardTurns }
      eq := { ch.eq with flags := { ch.eq.flags with slip := true } } }

/-- Stage 3: the receive sample is taken and held (R44); `rx` is none at a slipped frame end. -/
def receiveStage (ch : Channel) (rx : Option Sample) : Channel :=
  let ch' := if rx.isNone then slipChannel ch else ch
  { ch' with heldRx := turnRx ch rx }

/-- The three acts of a block boundary, then the block is emptied (R46). -/
def boundary (s : State) (c : ChanId) : State :=
  (qualityCheck (divergenceCheck (completeBlock s c) c) c).modCh c emptyBlock

/-- The turn ends: the guard falls by one and the write index rises by one (R46). -/
def endTurn (ch : Channel) : Channel :=
  { ch with
    echo := { ch.echo with guard := ch.echo.guard - 1 }
    writeIndex := ch.writeIndex + 1 }

/-- The boundary runs when the block holds B outputs (R46). -/
def boundaryIfFull (s : State) (c : ChanId) : State :=
  if (s.ch c).eq.outputs.length = (s.ch c).params.blockSize then boundary s c else s

/-- Stages 4 to 7 and the turn's end, with the receive sample taken (R45, R46). -/
def filterStages (s : State) (c : ChanId) (rx : Sample) (slipped : Bool) : State :=
  let x := s.history c
  let r := turnResidual (s.ch c) x rx
  let s4 := echoStage s c x r
  let s5 := surveyStage s4 c x r slipped
  let s7 := s5.modCh c fun ch => eqStage (powerStage ch rx r) r
  (boundaryIfFull s7 c).modCh c endTurn

/-- One whole sample turn (R43); `rx` is none at a slipped frame end (R24). -/
def turn (s : State) (c : ChanId) (sl : SlotId) (rx : Option Sample) : State :=
  let s2 := transmitStage s c sl
  let s3 := s2.modCh c fun ch => receiveStage ch rx
  filterStages s3 c (s3.ch c).heldRx rx.isNone

/-- The drain of a DRAINING channel times out (R50). -/
def State.timeoutDrain (s : State) (c : ChanId) : State := s.endDrainExpiring c .timeout

/-- A frame end counts in the drain of a DRAINING channel (R48, R50). -/
def drainFrame (s : State) (c : ChanId) : State :=
  let s' := s.modCh c fun ch => { ch with drainCount := ch.drainCount + 1 }
  if (s'.ch c).drainCount = Config.drainFrames then s'.timeoutDrain c else s'

/-- The slot an OPEN channel takes its turn with: the one its context names, when the slot map agrees (R43). -/
def State.turnSlot (s : State) (c : ChanId) : Option SlotId :=
  match (s.ch c).slot with
  | some sl => if s.slotOwner sl = some c then some sl else none
  | none => none

/-- What a channel does at a frame end: `rx` gives the receive samples by slot, none at a slipped one (R20, R23). -/
def channelFrame (rx : Option (Vector Sample 64)) (s : State) (c : ChanId) : State :=
  match (s.ch c).state with
  | .opened =>
    match s.turnSlot c with
    | some sl => turn s c sl (rx.map fun v => v[sl.val])
    | none => s
  | .draining => drainFrame s c
  | .free | .halted => s

/-- The drive set before the turns choose: 0 in every mapped slot, the others undriven (R21). -/
def baseDrive (slotMap : Vector (Option ChanId) 64) : Vector (Option Sample) 64 :=
  Vector.ofFn fun i => slotMap[i.val].map fun _ => 0

/-- Fix the drive set of the frame that an accepted sync begins, before any turn of that sync (R21). -/
def State.fixDrive (s : State) : State :=
  { s with highway := { s.highway with drive := baseDrive s.highway.slotMap } }

/-- Whether a channel has work at a frame end (R20, R48). -/
def State.activeAtFrame (s : State) (c : ChanId) : Bool :=
  decide ((s.ch c).state = .opened) || decide ((s.ch c).state = .draining)

/-- Every channel's work at a frame end, in the free order (section 3.3, log entry 4). -/
def State.channelsAtFrame (s : State) (rx : Option (Vector Sample 64)) : State :=
  ((s.channelsInFreeOrder s.activeAtFrame).foldl (channelFrame rx) s.fixDrive).nextChoice

end Sys2Proof.Machine
end

