-- ==== Sys2Proof/Machine/CallRequests.lean ====
section
/-! DEFINITION. The requests of a call's life: BIND (R39 to R42), QUIESCE (R47, R51) and RELEASE (R54, R55). -/

namespace Sys2Proof.Machine

/-! ### BIND -/

/-- The pass-through equalizer of BIND: every tap 0 but the centre one, 8192 (R41). -/
def passThroughTaps (m : Nat) : List Sample := (List.replicate m (0 : Sample)).set (m / 2) 8192

/-- A channel context at BIND (R41, R71, R119, R161). -/
def boundChannel (sl : SlotId) (p : Profile) (pages : List Nat) : Channel where
  state := .opened
  slot := some sl
  params := p
  pages := pages
  writeIndex := 0
  heldRx := 0
  tx := ⟨[], .priming, .disarmed, .armed, BitVec.allOnes 15⟩
  echo := ⟨List.replicate p.nearTaps 0, List.replicate p.farTaps 0, 0, .hold, 0, none, .track, none, 0, 0⟩
  eq := ⟨passThroughTaps p.eqTaps, .hold, [], [], [], BlockFlags.clear, 0, false, []⟩
  quality := ⟨0, 0, 0, 0, 0, .armed, .armed⟩
  survey := .noSurvey
  lastResult := none
  cursors := ⟨0, 0, 0, 0, 0⟩
  drainCount := 0
  counters := ChanCounters.zero

/-- An EQ_BLOCK of an earlier call whose frame is going out no longer counts once its channel number is bound again
(R204). -/
def OutFrame.rebound (c : ChanId) (o : OutFrame) : OutFrame :=
  match o.source with
  | .eqBlock d _ => if d = c then { o with source := .eqBlock d false } else o
  | .reply | .notice | .removed => o

/-- The admitted BIND: slot, taps, pages and context in one act (R40, R62, R67). -/
def State.admitCall (s : State) (c : ChanId) (sl : SlotId) (p : Profile) : State :=
  let pages := s.freePages.take p.pagesNeeded
  let s1 := (s.setSlot sl (some c)).setCh c (boundChannel sl p pages)
  { s1 with
    freePages := s.freePages.drop p.pagesNeeded
    freeTaps := s.freeTaps - p.taps
    pageMem := memClearPages s.pageMem pages
    link := { s.link with outFrame := s.link.outFrame.map (OutFrame.rebound c) } }

/-- Checks 3 to 5 of R39, with the profile named, and the admission (R39, R40, R68). -/
def admitIfRoom (s : State) (c : ChanId) (sl : SlotId) (p : Profile) : Answer :=
  if s.slotOwner sl ≠ none then refuse s .slotBusy
  else if s.freeTaps < p.taps then ⟨s, .noTaps, [natWord p.taps, natWord s.freeTaps]⟩
  else if s.freePages.length < p.pagesNeeded then
    ⟨s, .noPages, [natWord p.pagesNeeded, natWord s.freePages.length]⟩
  else ⟨s.admitCall c sl p, .ok, [natWord p.pagesNeeded, natWord p.taps]⟩

/-- BIND's checks in the order of R39. -/
def actBind (s : State) (f : Frame) (c : ChanId) : Answer :=
  match slotOf (f.value 0) with
  | none => refuse s .malformed
  | some sl =>
    if (s.ch c).state ≠ .free then refuse s .wrongState
    else if 7 < f.value 1 then ⟨s, .badProfile, [0]⟩
    else admitIfRoom s c sl (s.profile (f.value 1))

/-- BIND (R39). -/
def execBind (s : State) : StepResult := takeKind 0x10 (channelRequest (lengthIs 4) actBind) s

/-! ### QUIESCE -/

/-- The context as it enters DRAINING (R47). -/
def quiescedChannel (ch : Channel) : Channel :=
  { emptyBlock ch with
    state := .draining
    tx := { ch.tx with queue := [] }
    drainCount := 0 }

/-- A drain that ends at once: with nothing pending, or with the highway not synchronized (R49, R51). -/
def State.drainAtOnce (s : State) (c : ChanId) : State :=
  if (s.ch c).eq.pendingRefs = [] then s.endDrain c .empty 0
  else if s.highway.hunting then s.endDrainExpiring c .lineLost
  else s

/-- QUIESCE on an OPEN channel; the survey ends in the same act, before the drain's end is decided (R47, R157). -/
def State.quiesce (s : State) (c : ChanId) : State :=
  ((s.cancelSurvey c).modCh c quiescedChannel).drainAtOnce c

/-- QUIESCE by the channel's state (R38, R47). -/
def actQuiesce (s : State) (_ : Frame) (c : ChanId) : Answer :=
  match (s.ch c).state with
  | .opened => ⟨s.quiesce c, .ok, [chanStateWord ((s.quiesce c).ch c).state]⟩
  | .draining => refuse s .already
  | .free | .halted => refuse s .wrongState

/-- QUIESCE (R47). -/
def execQuiesce (s : State) : StepResult := takeKind 0x11 (channelRequest (lengthIs 0) actQuiesce) s

/-! ### RELEASE -/

/-- Whether an EQ_BLOCK's frame is going out; that EQ_BLOCK is the head of the outbound data queue (R201). -/
def Link.sendingBlock (l : Link) : Bool :=
  match l.outFrame with
  | some o => match o.source with
    | .eqBlock _ _ => true
    | .reply | .notice | .removed => false
  | none => false

/-- The outbound data queue without a channel's waiting EQ_BLOCKs; one whose frame has begun keeps its place (R55, R201). -/
def dropBlocks (c : ChanId) (sending : Bool) (q : List EqBlock) : List EqBlock :=
  (if sending then q.take 1 else []) ++ (if sending then q.drop 1 else q).filter fun b => decide (b.channel ≠ c)

/-- The link without a channel's waiting notices and EQ_BLOCKs (R55, R199). -/
def Link.withdraw (l : Link) (c : ChanId) : Link :=
  { l with
    notices := l.notices.filter fun n => n.channel != chanByte c
    dataQueue := dropBlocks c l.sendingBlock l.dataQueue }

/-- The slot map without the channel's slot (R54). -/
def State.unmap (s : State) (c : ChanId) : State :=
  match (s.ch c).slot with
  | some sl => s.setSlot sl none
  | none => s

/-- RELEASE: the survey is withdrawn, the slot, pages and taps return, the context is gone but for its counters, and what
is in flight is withdrawn (R54, R55, R69, R158). -/
def State.release (s : State) (c : ChanId) : State :=
  let ch := s.ch c
  let s1 := ((s.withdrawSurvey c).unmap c).setCh c (Channel.blank ch.counters)
  { s1 with
    freePages := s.freePages ++ ch.pages
    freeTaps := s.freeTaps + ch.params.taps
    link := s.link.withdraw c }

/-- RELEASE by the channel's state; the reply carries the pages and taps returned (R54, R69). -/
def actRelease (s : State) (_ : Frame) (c : ChanId) : Answer :=
  inStates s c [.opened, .draining, .halted]
    ⟨s.release c, .ok, [natWord (s.ch c).pages.length, natWord (s.ch c).params.taps]⟩

/-- RELEASE (R54). -/
def execRelease (s : State) : StepResult := takeKind 0x12 (channelRequest (lengthIs 0) actRelease) s

end Sys2Proof.Machine
end

