-- ==== Sys2Proof/Machine/DeviceRequests.lean ====
section
/-! DEFINITION. The device requests: an unknown kind (R195), INFO (R205), RESET (R207), the profile table's requests (R179
to R183) and the statistics requests (R174, R176). -/

namespace Sys2Proof.Machine

/-! ### UNKNOWN_KIND -/

/-- The request kinds of R209. -/
def requestKinds : List Byte :=
  [0x01, 0x02, 0x03, 0x04, 0x05, 0x06, 0x07, 0x10, 0x11, 0x12, 0x13, 0x14, 0x15, 0x16, 0x17, 0x18, 0x19, 0x1A, 0x1B,
    0x1C, 0x1D]

/-- A request of unknown kind (R193, R195). -/
def isUnknownKind (f : Frame) : Bool := !requestKinds.contains f.kind

/-- The answer to a request of unknown kind carries the kind received (R195). -/
def actUnknownKind (s : State) (f : Frame) : Answer := ⟨s, .unknownKind, [f.kind.setWidth 16]⟩

/-- UNKNOWN_KIND: the reply has kind 0x80 (R196). -/
def execUnknownKind (s : State) : StepResult := takeRequest s isUnknownKind (fun _ => 0x80) actUnknownKind

/-! ### INFO -/

/-- The items of INFO, in order (R205). -/
def infoItems (s : State) : List Word :=
  [natWord Config.partCode, natWord Config.revision, 40, 64, natWord Config.tapCapacity, natWord s.freeTaps,
    natWord Config.pageCount, natWord s.freePages.length, boolWord s.lock, hwStateWord s.highway.state]

/-- INFO changes nothing (R205). -/
def actInfo (s : State) (_ : Frame) : Answer := ⟨s, .ok, infoItems s⟩

/-- INFO (R205). -/
def execInfo (s : State) : StepResult := takeKind 0x01 (deviceRequest (lengthIs 0) actInfo) s

/-! ### RESET -/

/-- An outbound frame in progress at a RESET completes with no place in a queue (R204, R207). -/
def OutFrame.detach (o : OutFrame) : OutFrame :=
  match o.source with
  | .notice => o
  | .reply | .eqBlock _ _ | .removed => { o with source := .removed }

/-- The link at a RESET: replies, notices and EQ_BLOCKs are gone; the receiver, the request queue and a frame in progress
stay (R207). -/
def Link.cleared (l : Link) : Link :=
  { l with replies := [], notices := [], dataQueue := [], outFrame := l.outFrame.map OutFrame.detach }

/-- Slots 1..7 at a RESET (R187). -/
def revertedProfiles (s : State) (revert : Bool) : Vector Profile 7 :=
  if revert && !s.lock then Vector.replicate 7 defaultProfile else s.profiles

/-- Every block's state after RESET (R34, R57, R70, R158, R172, R173, R187, R207). The samples of the pages, the lock and
the request queue stay, and so does the frame sync level found last, which is the trunk's (R18; log entry 24). -/
def State.resetPart (s : State) (revert : Bool) : State :=
  { s with
    highway := { Highway.reset with hfs := s.highway.hfs }
    channels := Vector.replicate 40 (Channel.blank ChanCounters.zero)
    freePages := List.range Config.pageCount
    freeTaps := Config.tapCapacity
    dsu := ⟨[], Vector.replicate 4 none⟩
    profiles := revertedProfiles s revert
    device := DevCounters.zero
    snapshot := Snapshot.invalid
    link := s.link.cleared }

/-- RESET is carried out and carries PROFILES_KEPT (R187, R207). -/
def actReset (s : State) (f : Frame) : Answer :=
  ⟨s.resetPart (f.flag 0 0), .ok, [boolWord (f.flag 0 0 && s.lock)]⟩

/-- RESET (R207). A payload of another length than its own is answered MALFORMED like any request's (R195, R209;
log entry 12). -/
def execReset (s : State) : StepResult := takeKind 0x02 (deviceRequest (lengthIs 2) actReset) s

/-! ### Profiles -/

/-- The profile that fields 1..17 of a PROFILE_WRITE carry (R177, R209). -/
def writtenProfile (f : Frame) : Profile where
  nearTaps := f.value 1
  farTaps := f.value 2
  maxDelay := f.value 3
  eqTaps := f.value 4
  blockSize := f.value 5
  echoTrainShift := f.value 6
  echoTrackShift := f.value 7
  eqTrainShift := f.value 8
  eqTrackShift := f.value 9
  refWindow := f.value 10
  txStart := f.value 11
  txLow := f.value 12
  txHigh := f.value 13
  erleMin := f.value 14
  mseMin := f.value 15
  surveyMinConf := f.value 16
  autoCheckpoint := f.flag 17 0
  divergenceGuard := f.flag 17 1

/-- A field's number, its value, and whether it is within the range of R177 (R180). The flags field never fails. -/
def fieldChecks (p : Profile) : List (Nat × Nat × Bool) :=
  [(1, p.nearTaps, decide (16 ≤ p.nearTaps ∧ p.nearTaps ≤ 128 ∧ p.nearTaps % 16 = 0)),
    (2, p.farTaps, decide (p.farTaps ≤ 256 ∧ p.farTaps % 16 = 0)),
    (3, p.maxDelay, decide (p.maxDelay ≤ 2047)),
    (4, p.eqTaps, decide (8 ≤ p.eqTaps ∧ p.eqTaps ≤ 64 ∧ p.eqTaps % 8 = 0)),
    (5, p.blockSize, decide (p.blockSize = 10 ∨ p.blockSize = 20 ∨ p.blockSize = 40 ∨ p.blockSize = 80)),
    (6, p.echoTrainShift, decide (p.echoTrainShift ≤ 15)),
    (7, p.echoTrackShift, decide (p.echoTrackShift ≤ 15)),
    (8, p.eqTrainShift, decide (p.eqTrainShift ≤ 15)),
    (9, p.eqTrackShift, decide (p.eqTrackShift ≤ 15)),
    (10, p.refWindow, decide (1 ≤ p.refWindow ∧ p.refWindow ≤ 8)),
    (11, p.txStart, decide (1 ≤ p.txStart ∧ p.txStart ≤ 320)),
    (12, p.txLow, decide (1 ≤ p.txLow ∧ p.txLow ≤ 320)),
    (13, p.txHigh, decide (1 ≤ p.txHigh ∧ p.txHigh ≤ 320 ∧ p.txLow < p.txHigh)),
    (14, p.erleMin, decide (p.erleMin ≤ 45)),
    (15, p.mseMin, decide (p.mseMin ≤ 45)),
    (16, p.surveyMinConf, decide (p.surveyMinConf ≤ 45))]

/-- The first field out of range, with its value (R180). -/
def badField (p : Profile) : Option (Nat × Nat) :=
  ((fieldChecks p).find? fun e => !e.2.2).map fun e => (e.1, e.2.1)

/-- Set a profile slot 1..7. -/
def State.setProfile (s : State) (k : Nat) (p : Profile) : State :=
  if h : 1 ≤ k ∧ k ≤ 7 then { s with profiles := s.profiles.set (k - 1) p } else s

/-- PROFILE_WRITE's checks 2 to 5 and its act (R179 to R181). -/
def actProfileWrite (s : State) (f : Frame) : Answer :=
  if 7 < f.value 0 then ⟨s, .badProfile, [0]⟩
  else if f.value 0 = 0 then ⟨s, .badProfile, [0]⟩
  else if s.lock then refuse s .locked
  else match badField (writtenProfile f) with
    | some e => ⟨s, .badProfile, [natWord e.1, natWord e.2]⟩
    | none => ⟨s.setProfile (f.value 0) (writtenProfile f), .ok, [f.word 0]⟩

/-- PROFILE_WRITE (R179). -/
def execProfileWrite (s : State) : StepResult := takeKind 0x03 (deviceRequest (lengthIs 36) actProfileWrite) s

/-- PROFILE_READ's check and reply (R182). -/
def actProfileRead (s : State) (f : Frame) : Answer :=
  if 7 < f.value 0 then ⟨s, .badProfile, [0]⟩
  else ⟨s, .ok, f.word 0 :: (profileWords (s.profile (f.value 0)) ++ [boolWord s.lock])⟩

/-- PROFILE_READ (R182). -/
def execProfileRead (s : State) : StepResult := takeKind 0x04 (deviceRequest (lengthIs 2) actProfileRead) s

/-- PROFILE_LOCK sets the lock on, or finds it on (R183). -/
def actProfileLock (s : State) (_ : Frame) : Answer :=
  ⟨{ s with lock := true }, if s.lock then .already else .ok, [1]⟩

/-- PROFILE_LOCK (R183). -/
def execProfileLock (s : State) : StepResult := takeKind 0x05 (deviceRequest (lengthIs 0) actProfileLock) s

/-! ### Statistics -/

/-- The snapshot set a STATS_SNAPSHOT takes (R173, R174). -/
def State.snapshotNow (s : State) (clear : Bool) : Snapshot where
  valid := true
  stamp := s.highway.frameCounter
  cleared := clear
  device := s.device
  channels := Vector.ofFn fun i => ⟨(s.ch i).state, (s.ch i).counters⟩

/-- Every live counter is set to 0 (R174). -/
def State.clearCounters (s : State) : State :=
  { s with
    device := DevCounters.zero
    channels := Vector.ofFn fun i => { s.ch i with counters := ChanCounters.zero } }

/-- STATS_SNAPSHOT copies, then clears when CLEAR is set (R174). -/
def actStatsSnapshot (s : State) (f : Frame) : Answer :=
  let s1 := { s with snapshot := s.snapshotNow (f.flag 0 0) }
  ⟨if f.flag 0 0 then s1.clearCounters else s1, .ok,
    countWords s.highway.frameCounter ++ [boolWord (f.flag 0 0)]⟩

/-- STATS_SNAPSHOT (R174). -/
def execStatsSnapshot (s : State) : StepResult := takeKind 0x06 (deviceRequest (lengthIs 2) actStatsSnapshot) s

/-- The items every STATS_READ carries: valid, stamp, cleared (R176). -/
def snapshotHead (n : Snapshot) : List Word := boolWord n.valid :: (countWords n.stamp ++ [boolWord n.cleared])

/-- The channel a STATS_READ selector names, none above 39 (R176). -/
def selectorOf (v : Nat) : Option ChanId := if h : v < 40 then some ⟨v, h⟩ else none

/-- STATS_READ reads the snapshot set for the device or one channel (R176; log entry 17). -/
def actStatsRead (s : State) (f : Frame) : Answer :=
  if f.word 0 = 0xFFFF then ⟨s, .ok, snapshotHead s.snapshot ++ devCounterWords s.snapshot.device⟩
  else match selectorOf (f.value 0) with
    | none => refuse s .noChannel
    | some c =>
      ⟨s, .ok, snapshotHead s.snapshot
        ++ (chanStateWord s.snapshot.channels[c.val].state :: chanCounterWords s.snapshot.channels[c.val].counters)⟩

/-- STATS_READ (R176). -/
def execStatsRead (s : State) : StepResult := takeKind 0x07 (deviceRequest (lengthIs 2) actStatsRead) s

end Sys2Proof.Machine
end

