-- ==== Sys2Proof/Machine/EchoRequests.lean ====
section
/-! DEFINITION. The requests that act on a channel's filters: ECHO_MODE (R91 to R93), ECHO_EXTEND (R98), SET_DELAY (R110),
EQ_MODE (R123, R124), TAPS_READ and TAPS_WRITE (R112 to R117, R140, R141), CHECKPOINT (R107) and RESTORE (R108). -/

namespace Sys2Proof.Machine

/-! ### ECHO_MODE -/

/-- The echo part after ECHO_MODE (R92, R93). -/
def setEchoMode (ch : Channel) (mode : EchoMode) (count : Nat) (thenMode : EchoMode) : Channel :=
  { ch with echo :=
      { ch.echo with mode := mode, trainCount := count, extension := none, thenMode := thenMode, strikes := 0 } }

/-- The items of ECHO_MODE's reply: mode, train count and then-mode as they stand (R91). -/
def echoModeItems (ch : Channel) : List Word :=
  [echoModeWord ch.echo.mode, natWord ch.echo.trainCount, echoModeWord ch.echo.thenMode]

/-- A taken ECHO_MODE (R91). -/
def answerEchoMode (s : State) (c : ChanId) (mode : EchoMode) (count : Nat) (thenMode : EchoMode) : Answer :=
  inStates s c [.opened]
    ⟨s.modCh c fun ch => setEchoMode ch mode count thenMode, .ok,
      echoModeItems (setEchoMode (s.ch c) mode count thenMode)⟩

/-- The then-mode of an ECHO_MODE TRAIN: TRACK when absent, none when a code names neither TRACK nor HOLD (R91, R92). -/
def thenModeOf (present : Bool) (code : Nat) : Option EchoMode :=
  if !present then some .track
  else match echoModeOf code with
    | some .hold => some .hold
    | some .track => some .track
    | some .train | none => none

/-- The train count of an ECHO_MODE TRAIN: 8000 when absent, none when it is 0 (R91, R92). -/
def trainCountOf (present : Bool) (count : Nat) : Option Nat :=
  if !present then some Config.trainDefault else if count = 0 then none else some count

/-- ECHO_MODE's checks and act (R91 to R93). -/
def actEchoMode (s : State) (f : Frame) (c : ChanId) : Answer :=
  match echoModeOf (f.value 0) with
  | none => refuse s .malformed
  | some .train =>
    match trainCountOf (f.flag 1 0) (f.value 2), thenModeOf (f.flag 1 1) (f.value 3) with
    | some count, some thenMode => answerEchoMode s c .train count thenMode
    | _, _ => refuse s .malformed
  | some .hold => answerEchoMode s c .hold 0 (s.ch c).echo.thenMode
  | some .track => answerEchoMode s c .track 0 (s.ch c).echo.thenMode

/-- ECHO_MODE (R91). -/
def execEchoMode (s : State) : StepResult := takeKind 0x13 (channelRequest (lengthIs 8) actEchoMode) s

/-! ### ECHO_EXTEND -/

/-- Set a pending extension (R98). -/
def setExtension (ch : Channel) (n : Nat) : Channel := { ch with echo := { ch.echo with extension := some n } }

/-- ECHO_EXTEND: the state checks of R38, LATE outside TRAIN among them, come first; then the count; then ALREADY (R98,
R195; log entry 13). -/
def actEchoExtend (s : State) (f : Frame) (c : ChanId) : Answer :=
  inStates s c [.opened] <|
    if (s.ch c).echo.mode ≠ .train then ⟨s, .late, [echoModeWord (s.ch c).echo.mode]⟩
    else if f.value 0 = 0 then refuse s .malformed
    else if (s.ch c).echo.extension.isSome then refuse s .already
    else ⟨s.modCh c fun ch => setExtension ch (f.value 0), .ok, [natWord (s.ch c).echo.trainCount, f.word 0]⟩

/-- ECHO_EXTEND (R98). -/
def execEchoExtend (s : State) : StepResult := takeKind 0x14 (channelRequest (lengthIs 2) actEchoExtend) s

/-! ### SET_DELAY -/

/-- Set D, clamped to max_delay, and zero the far taps when asked (R110). -/
def setDelay (ch : Channel) (d : Nat) (zeroFar : Bool) : Channel :=
  { ch with echo :=
      { ch.echo with
        delay := min d ch.params.maxDelay
        far := if zeroFar then List.replicate ch.echo.far.length 0 else ch.echo.far } }

/-- SET_DELAY (R110). -/
def actSetDelay (s : State) (f : Frame) (c : ChanId) : Answer :=
  inStates s c [.opened, .halted]
    ⟨s.modCh c fun ch => setDelay ch (f.value 0) (f.flag 1 0),
      if (s.ch c).params.maxDelay < f.value 0 then .adjusted else .ok,
      [natWord (min (f.value 0) (s.ch c).params.maxDelay)]⟩

/-- SET_DELAY (R110). -/
def execSetDelay (s : State) : StepResult := takeKind 0x15 (channelRequest (lengthIs 4) actSetDelay) s

/-! ### EQ_MODE -/

/-- Set the eq mode; BYPASS expires the pending-reference list (R123, R124). -/
def State.setEqMode (s : State) (c : ChanId) (mode : EqMode) : State :=
  let s1 := if mode = .bypass then s.expireAll c else s
  s1.modCh c fun ch => { ch with eq := { ch.eq with mode := mode } }

/-- The entries an EQ_MODE expires (R123). -/
def expiredByMode (ch : Channel) (mode : EqMode) : Nat := if mode = .bypass then ch.eq.pendingRefs.length else 0

/-- EQ_MODE's checks and act (R123). -/
def actEqMode (s : State) (f : Frame) (c : ChanId) : Answer :=
  match eqModeOf (f.value 0) with
  | none => refuse s .malformed
  | some mode =>
    inStates s c [.opened]
      ⟨s.setEqMode c mode, .ok, [eqModeWord mode, natWord (expiredByMode (s.ch c) mode)]⟩

/-- EQ_MODE (R123). -/
def execEqMode (s : State) : StepResult := takeKind 0x16 (channelRequest (lengthIs 2) actEqMode) s

/-! ### Tap access -/

/-- The taps of a set, none for a checkpoint set while the checkpoint is absent (R112). -/
def tapsOf (ch : Channel) (set : TapSet) : Option (List Sample) :=
  match set with
  | .near => some ch.echo.near
  | .far => some ch.echo.far
  | .eq => some ch.eq.taps
  | .ckNear => ch.echo.checkpoint.map (·.near)
  | .ckFar => ch.echo.checkpoint.map (·.far)

/-- The cursor of a set (R113). -/
def cursorOf (ch : Channel) (set : TapSet) : Nat :=
  match set with
  | .near => ch.cursors.near
  | .far => ch.cursors.far
  | .eq => ch.cursors.eq
  | .ckNear => ch.cursors.ckNear
  | .ckFar => ch.cursors.ckFar

/-- Move the cursor of a set (R113). -/
def setCursor (ch : Channel) (set : TapSet) (n : Nat) : Channel :=
  { ch with cursors :=
      match set with
      | .near => { ch.cursors with near := n }
      | .far => { ch.cursors with far := n }
      | .eq => { ch.cursors with eq := n }
      | .ckNear => { ch.cursors with ckNear := n }
      | .ckFar => { ch.cursors with ckFar := n } }

/-- Replace the taps of a writable set; a checkpoint set is not written (R112). -/
def setTaps (ch : Channel) (set : TapSet) (taps : List Sample) : Channel :=
  match set with
  | .near => { ch with echo := { ch.echo with near := taps } }
  | .far => { ch with echo := { ch.echo with far := taps } }
  | .eq => { ch with eq := { ch.eq with taps := taps } }
  | .ckNear | .ckFar => ch

/-- The start of an access: the one given, or the cursor (R113). -/
def startUsed (ch : Channel) (set : TapSet) (start : Option Nat) : Nat := start.getD (cursorOf ch set)

/-- The count of an access, cut at the end of the set (R114, R116). -/
def countUsed (length start count : Nat) : Nat := min count (length - start)

/-- OK, or ADJUSTED when the access runs past the end of the set (R114, R116). -/
def accessCode (length start count : Nat) : ResultCode := if length < start + count then .adjusted else .ok

/-- Move the cursor after an access (R113). -/
def moveCursor (ch : Channel) (set : TapSet) (length start count : Nat) : Channel :=
  setCursor ch set ((start + countUsed length start count) % length)

/-- The pending-reference list in brief: the number of entries, then each entry's seq and slip flag (R141). -/
def pendingWords (l : List PendingEntry) : List Word :=
  natWord l.length :: l.flatMap fun e => [e.seq, boolWord e.slip]

/-- What a TAPS_READ carries after the taps (R115, R141). -/
def readTrailer (ch : Channel) (set : TapSet) : List Word :=
  match set with
  | .near | .far => [natWord ch.echo.delay, echoModeWord ch.echo.mode]
  | .eq => [eqModeWord ch.eq.mode, ch.eq.nextSeq] ++ pendingWords ch.eq.pendingRefs
  | .ckNear | .ckFar => (ch.echo.checkpoint.map fun k => natWord k.delay).toList

/-- TAPS_READ's checks 5 and 6 and its reply, for a set that is there (R114, R115). -/
def readTaps (s : State) (c : ChanId) (set : TapSet) (taps : List Sample) (start count : Nat) : Answer :=
  if taps.length ≤ start then refuse s .malformed
  else
    ⟨s.modCh c fun ch => moveCursor ch set taps.length start count,
      accessCode taps.length start count,
      [tapSetWord set, natWord start, natWord (countUsed taps.length start count)]
        ++ (taps.drop start).take (countUsed taps.length start count) ++ readTrailer (s.ch c) set⟩

/-- TAPS_READ's checks in the order of R114. -/
def actTapsRead (s : State) (f : Frame) (c : ChanId) : Answer :=
  match tapSetOf (f.value 0) with
  | none => refuse s .malformed
  | some set =>
    if f.value 2 < 1 ∨ 128 < f.value 2 then refuse s .malformed
    else inStates s c [.opened, .draining, .halted] <|
      match tapsOf (s.ch c) set with
      | none => refuse s .notFound
      | some taps => readTaps s c set taps (startUsed (s.ch c) set (startOf (f.word 1))) (f.value 2)

/-- TAPS_READ (R114). -/
def execTapsRead (s : State) : StepResult := takeKind 0x17 (channelRequest (lengthIs 6) actTapsRead) s

/-- Whether a set may be written in the channel's state and modes (R116, R140). -/
def writeAllowed (ch : Channel) (set : TapSet) : Bool :=
  match ch.state with
  | .halted => true
  | .opened =>
    match set with
    | .near | .far => decide (ch.echo.mode = .hold)
    | .eq => decide (ch.eq.mode = .hold) || decide (ch.eq.mode = .bypass)
    | .ckNear | .ckFar => false
  | .free | .draining => false

/-- The list with values written from a start on, cut at its end (R116, R117). -/
def overwrite (taps : List Sample) (start : Nat) (values : List Sample) : List Sample :=
  taps.take start ++ (values.take (countUsed taps.length start values.length)
    ++ taps.drop (start + countUsed taps.length start values.length))

/-- TAPS_WRITE's checks 4 and 5 and its act, for a writable set (R116, R117). -/
def writeTaps (s : State) (c : ChanId) (set : TapSet) (taps : List Sample) (start : Nat) (values : List Sample) : Answer :=
  if taps.length ≤ start then refuse s .malformed
  else
    ⟨s.modCh c fun ch =>
        moveCursor (setTaps ch set (overwrite taps start values)) set taps.length start values.length,
      accessCode taps.length start values.length,
      [natWord start, natWord (countUsed taps.length start values.length)]⟩

/-- The payload lengths of a TAPS_WRITE (R209). -/
def tapsWriteLength (len : Nat) : Bool := decide (6 ≤ len) && decide (len ≤ 260) && decide (len % 2 = 0)

/-- The writable set a code names (R116). -/
def writableSet (code : Nat) : Option TapSet :=
  match tapSetOf code with
  | some .near => some .near
  | some .far => some .far
  | some .eq => some .eq
  | some .ckNear | some .ckFar | none => none

/-- TAPS_WRITE's checks in the order of R116. -/
def actTapsWrite (s : State) (f : Frame) (c : ChanId) : Answer :=
  match writableSet (f.value 0) with
  | none => refuse s .malformed
  | some set =>
    if writeAllowed (s.ch c) set then
      writeTaps s c set ((tapsOf (s.ch c) set).getD []) (startUsed (s.ch c) set (startOf (f.word 1)))
        ((payloadWords f.payload).drop 2)
    else refuse s .wrongState

/-- TAPS_WRITE (R116). -/
def execTapsWrite (s : State) : StepResult := takeKind 0x18 (channelRequest tapsWriteLength actTapsWrite) s

/-! ### Checkpoints -/

/-- CHECKPOINT (R107). -/
def actCheckpoint (s : State) (_ : Frame) (c : ChanId) : Answer :=
  inStates s c [.opened, .halted] ⟨s.modCh c takeCheckpoint, .ok, [natWord (s.ch c).echo.delay]⟩

/-- CHECKPOINT (R107). -/
def execCheckpoint (s : State) : StepResult := takeKind 0x19 (channelRequest (lengthIs 0) actCheckpoint) s

/-- RESTORE (R108). -/
def actRestore (s : State) (_ : Frame) (c : ChanId) : Answer :=
  inStates s c [.opened, .halted] <|
    match (s.ch c).echo.checkpoint with
    | none => refuse s .notFound
    | some k => ⟨s.modCh c fun ch => setStrikes (loadCheckpoint ch k) 0, .ok, [natWord k.delay]⟩

/-- RESTORE (R108). -/
def execRestore (s : State) : StepResult := takeKind 0x1A (channelRequest (lengthIs 0) actRestore) s

end Sys2Proof.Machine
end

