-- ==== Sys2Proof/Machine/Framing.lean ====
section
/-! DEFINITION. The bits of the two serial ports: the frame sync and the receive and transmit data of the line highway (R18,
R21), and the bits and bytes of the SPI port in both directions (R188). -/

namespace Sys2Proof.Machine

/-! ### The frame sync input (R18) -/

/-- A bit clock is a sync: the input is high after having been low at the bit clock before. -/
def isSync (before level : Bool) : Bool := level && !before

/-- No sync comes at any of these bit clocks; `before` is the level at the one before them. -/
def noSync : Bool → List Bool → Bool
  | _, [] => true
  | before, level :: rest => !isSync before level && noSync level rest

/-- A sync comes at the last of these bit clocks and at none before it. -/
def syncAtLast : Bool → List Bool → Bool
  | _, [] => false
  | before, [level] => isSync before level
  | before, level :: next :: rest => !isSync before level && syncAtLast level (next :: rest)

/-- The level found last is held for the next bit clock. -/
def State.foundHfs (s : State) (hfs : List Bool) : State :=
  { s with highway := { s.highway with hfs := hfs.getLastD s.highway.hfs } }

/-! ### Receive and transmit data (R18, R21) -/

/-- The receive sample of a slot: the 16 bits at bit counts 16s..16s+15, most significant bit first. The bit at bit count 0
is the most significant bit of `hrd`. -/
def slotSample (hrd : BitVec 1024) (sl : SlotId) : Sample := hrd.extractLsb' (1008 - 16 * sl.val) 16

/-- The receive samples of a frame, by slot. -/
def receiveSamples (hrd : BitVec 1024) : Vector Sample 64 := Vector.ofFn (slotSample hrd)

/-- The bit on the transmit data output at the present bit count: a slot's transmit sample at the slot's bit counts, most
significant bit first, none in the high-impedance state of an undriven slot and of the bit counts beyond the frame. -/
def Highway.htd (h : Highway) : Option Bool :=
  if hc : h.bitCount < 1024 then (h.drive[h.bitCount / 16]).map fun x => x.getMsbD (h.bitCount % 16) else none

/-! ### Bytes of the SPI port (R188) -/

/-- The byte that eight bits make, most significant bit first. -/
def byteOfBits (bits : List Bool) : Byte := (BitVec.ofBoolListBE bits).setWidth 8

/-- The eight bits of a byte, most significant bit first. -/
def byteBits (b : Byte) : List Bool := (List.range 8).map b.getMsbD

/-- The bits that go out on SDO, from the first clock of the outbound byte in hand on, as far as they are fixed: the remaining
bytes of the frame in progress, the byte that was cut whole again among them; or the filler byte that the arbiter chose or
that is due again; none when the arbiter is to choose at the next clock (R188, R202, R204). -/
def Link.outBits (l : Link) : List Bool :=
  match l.outFrame with
  | some o => (o.bytes.drop o.position).flatMap byteBits
  | none => if l.filler = .absent then [] else byteBits 0

/-- The bit on the outbound data output SDO at a clock of SCK, the first clock of the outbound byte in hand being clock 0; none
where the arbiter is yet to choose the byte (R188). A clock comes while NCS is low; while it is high SDO is in the
high-impedance state (R210). -/
def Link.sdoBit (l : Link) (clock : Nat) : Option Bool := l.outBits[clock]?

end Sys2Proof.Machine
end

