-- ==== Sys2Proof/Machine/Highway.lean ====
section
/-! DEFINITION. The line highway's events (section 2 of the spec): HUNT_SYNC, FRAME_END, SLIP, HIGHWAY_LOSS, the bit clock
of an idle step (R18, R27, R29; log entry 6), and the counts that run out inside a frame end (log entry 5). -/

namespace Sys2Proof.Machine

/-- The bit count at which an event comes, `clocks` bit clocks on; it rises to 3072 and holds there (R27). -/
def arrivalCount (h : Highway) (clocks : Nat) : Nat := min (h.bitCount + clocks) Config.lossClocks

/-- The guard of acquisition: 64 on every OPEN channel (R28). -/
def guardIfOpen (ch : Channel) : Channel :=
  if ch.state = .opened then { ch with echo := { ch.echo with guard := Config.guardTurns } } else ch

/-- Every OPEN channel is guarded at acquisition (R28). -/
def State.guardOpen (s : State) : State := { s with channels := Vector.ofFn fun i => guardIfOpen (s.ch i) }

/-- The hunt takes a sync: it is the reference, the bit count is 0, and the good-frame run is as given (R27). -/
def State.huntRun (s : State) (run : Nat) : State :=
  { s with highway := { s.highway with bitCount := 0, reference := true, goodRun := run } }

/-- Acquisition is complete (R28): SYNCED, the notice, the guards, the windows begun again, the drive set. -/
def State.acquire (s : State) : State :=
  let s1 := { s with highway := { s.highway with state := .synced } }
  ((s1.raiseHighway .sync).guardOpen.restartSurveys).fixDrive

/-- A sync in HUNT or LOST at a bit count (R27, R28). -/
def State.huntSync (s : State) (count : Nat) : State :=
  if s.highway.reference && decide (count = Config.frameClocks) then
    if s.highway.goodRun + 1 = 2 then (s.huntRun 2).acquire else s.huntRun (s.highway.goodRun + 1)
  else s.huntRun 0

/-- The counts of a frame end taken in SYNCED (R20, R23, R31). -/
def State.countFrame (s : State) : State :=
  { s with
    highway := { s.highway with bitCount := 0, frameCounter := s.highway.frameCounter + 1 }
    device := { s.device with frames := s.device.frames + 1 } }

/-- An on-time frame end (R20). -/
def State.frameEnd (s : State) (rx : Vector Sample 64) : State := s.countFrame.channelsAtFrame (some rx)

/-- A slipped frame end (R23). -/
def State.slipFrame (s : State) : State :=
  let s1 := s.countFrame.countDev fun d => { d with slips := d.slips + 1 }
  (s1.raiseHighway .slip).channelsAtFrame none

/-- A DRAINING channel's drain ends with the loss (R51). -/
def loseDrain (s : State) (c : ChanId) : State :=
  if (s.ch c).state = .draining then s.endDrainExpiring c .lineLost else s

/-- Every drain ends with the loss, in the free order (R26, R51; log entry 4). -/
def State.loseDrains (s : State) : State :=
  ((s.channelsInFreeOrder fun c => decide ((s.ch c).state = .draining)).foldl loseDrain s).nextChoice

/-- The highway after a loss: no slot is driven, and the hunt begins with no reference and a good-frame run of 0, or
with the sync that came at count 3072 as its reference (R19, R25; log entry 7). -/
def Highway.lost (h : Highway) (sync : Bool) : Highway :=
  { h with
    state := .lost
    bitCount := if sync then 0 else Config.lossClocks
    reference := sync
    goodRun := 0
    drive := Vector.replicate 64 none }

/-- The bit count reaches 3072 in SYNCED (R25, R26). -/
def State.loseHighway (s : State) (sync : Bool) : State :=
  let s1 := ({ s with highway := s.highway.lost sync }).countDev fun d => { d with syncLosses := d.syncLosses + 1 }
  (s1.raiseHighway .lost).loseDrains

/-- HUNT_SYNC (R18, R27, R28). -/
def execHuntSync (hfs : List Bool) (s : State) : StepResult :=
  unlessHeld s <|
    if s.highway.hunting ∧ syncAtLast s.highway.hfs hfs then
      ((s.foundHfs hfs).huntSync (arrivalCount s.highway hfs.length)).done
    else .refused .otherHighwayEvent

/-- FRAME_END: the sync comes at bit count 1024 in SYNCED (R18 to R20). -/
def execFrameEnd (frame : FrameInput) (s : State) : StepResult :=
  unlessHeld s <|
    if s.highway.state = .synced ∧ s.highway.bitCount + frame.hfs.length = Config.frameClocks
        ∧ syncAtLast s.highway.hfs frame.hfs then
      ((s.foundHfs frame.hfs).frameEnd (receiveSamples frame.hrd)).done
    else .refused .otherHighwayEvent

/-- SLIP: the sync comes at a bit count 1..1023 or 1025..3071 in SYNCED (R18, R19, R23, R24). -/
def execSlip (hfs : List Bool) (s : State) : StepResult :=
  unlessHeld s <|
    if s.highway.state = .synced ∧ s.highway.bitCount + hfs.length < Config.lossClocks
        ∧ s.highway.bitCount + hfs.length ≠ Config.frameClocks ∧ syncAtLast s.highway.hfs hfs then
      ((s.foundHfs hfs).slipFrame).done
    else .refused .otherHighwayEvent

/-- HIGHWAY_LOSS: the bit count reaches 3072 in SYNCED with no sync before it; a sync may come at that very bit clock (R18,
R19, R25, R26). -/
def execHighwayLoss (hfs : List Bool) (s : State) : StepResult :=
  unlessHeld s <|
    if s.highway.state = .synced ∧ s.highway.bitCount < Config.lossClocks
        ∧ s.highway.bitCount + hfs.length = Config.lossClocks
        ∧ (noSync s.highway.hfs hfs ∨ syncAtLast s.highway.hfs hfs) then
      ((s.foundHfs hfs).loseHighway (syncAtLast s.highway.hfs hfs)).done
    else .refused .otherHighwayEvent

/-- TRAIN_EXPIRY: the train count of a channel in TRAIN stands at 0 with no extension (R96). -/
def execTrainExpiry (c : ChanId) (s : State) : StepResult :=
  unlessHeld s <|
    if (s.ch c).state = .opened ∧ (s.ch c).echo.mode = .train ∧ (s.ch c).echo.trainCount = 0
        ∧ (s.ch c).echo.extension = none then
      (s.expireTraining c).done
    else .refused .countNotReached

/-- EXTENSION_TAKEN: the train count of a channel in TRAIN stands at 0 with an extension pending (R97). -/
def execExtensionTaken (c : ChanId) (s : State) : StepResult :=
  unlessHeld s <|
    match (s.ch c).echo.extension with
    | some n =>
      if (s.ch c).state = .opened ∧ (s.ch c).echo.mode = .train ∧ (s.ch c).echo.trainCount = 0 then
        (s.modCh c fun ch => takenExtension ch n).done
      else .refused .countNotReached
    | none => .refused .countNotReached

/-- The correlator that holds a channel's survey, with its content (R143). -/
def State.unitFor (s : State) (c : ChanId) : Option (Fin 4 × Correlator) :=
  (s.dsu.unitOf c).bind fun i => (s.dsu.unit i).map fun k => (i, k)

/-- LEAD_IN_END: the lead-in count of an OPEN channel's survey stands at 2048 in phase LEAD_IN (R148). -/
def execLeadInEnd (c : ChanId) (s : State) : StepResult :=
  unlessHeld s <|
    match s.unitFor c with
    | some (i, k) =>
      if (s.ch c).state = .opened ∧ k.phase = .leadIn ∧ k.leadIn = Config.leadInTurns then
        (s.setUnit i (some (leadInDone k))).done
      else .refused .countNotReached
    | none => .refused .countNotReached

/-- WINDOW_END: the window count of an OPEN channel's survey stands at 1024 in phase WINDOW (R150). -/
def execWindowEnd (c : ChanId) (s : State) : StepResult :=
  unlessHeld s <|
    match s.unitFor c with
    | some (i, k) =>
      if (s.ch c).state = .opened ∧ k.phase = .window ∧ k.window = Config.windowTurns then (s.endWindow c i k).done
      else .refused .countNotReached
    | none => .refused .countNotReached

/-- DRAIN_TIMEOUT: the drain frame count of a DRAINING channel stands at 800 (R50). -/
def execDrainTimeout (c : ChanId) (s : State) : StepResult :=
  unlessHeld s <|
    if (s.ch c).state = .draining ∧ (s.ch c).drainCount = Config.drainFrames then (s.timeoutDrain c).done
    else .refused .countNotReached

/-- One bit clock without a sync: the bit count rises, to 3072 where it holds while hunting, and in SYNCED reaching 3072 is
the loss (R18, R25, R27, R29; log entry 6). -/
def State.bitClock (s : State) : State :=
  match s.highway.state with
  | .synced =>
    if s.highway.bitCount + 1 < Config.lossClocks then
      { s with highway := { s.highway with bitCount := s.highway.bitCount + 1 } }
    else (s.loseHighway false).settle
  | .hunt | .lost =>
    if s.highway.reference then
      { s with highway := { s.highway with bitCount := arrivalCount s.highway 1 } }
    else s

/-- The step of an empty queue: one bit clock at which the frame sync input is found low (log entry 6); held low, NRST keeps
the part still (R210). -/
def idle (s : State) : StepResult := unlessHeld s (.next (s.foundHfs [false]).bitClock)

end Sys2Proof.Machine
end

