-- ==== Sys2Proof/Machine/Link.lean ====
section
/-! DEFINITION. The message link (section 11 of the spec): the check and the layout of frames (R190, R208), the receiver
and its second pass (R191, R192), dispatch (R193, R194), the outbound arbiter and the frame in progress (R202, R204), the
chip select (R188), and the two events of NRST (R206, R210). -/

namespace Sys2Proof.Machine

/-! ### The check -/

/-- Shift the check's remainder by `n` bits, with the generator x^16 + x^12 + x^5 + 1 (R190). -/
def checkShift : Nat → Word → Word
  | 0, r => r
  | n + 1, r => checkShift n (if r.getLsbD 15 then r <<< 1 ^^^ 0x1021 else r <<< 1)

/-- The check's remainder after one more byte, most significant bit first (R190). -/
def checkByte (r : Word) (b : Byte) : Word := checkShift 8 (r ^^^ b.setWidth 16 <<< 8)

/-- The check over bytes: the remainder starts at 0xFFFF and is not inverted (R190). -/
def checkOf (bytes : List Byte) : Word := bytes.foldl checkByte 0xFFFF

/-! ### Frames -/

/-- A word's two bytes, the less significant first (R208). -/
def wordBytes (w : Word) : List Byte := [w.setWidth 8, (w >>> 8).setWidth 8]

/-- The start byte (R190). -/
def startByte : Byte := 0xC3

/-- The bytes of a frame (R190, R208). -/
def frameBytes (f : Frame) : List Byte :=
  let covered := f.kind :: f.channel :: f.tag :: (wordBytes (BitVec.ofNat 16 f.payload.length) ++ f.payload)
  startByte :: (covered ++ wordBytes (checkOf covered))

/-- The payload bytes of words (R208). -/
def payloadOf (words : List Word) : List Byte := words.flatMap wordBytes

/-! ### Receiving -/

/-- What a run of bytes from a start byte on amounts to (R191, R192). -/
inductive Parsed where
  /-- The frame is not complete; the receiver would be in this state. -/
  | incomplete (state : RxState)
  /-- The frame is discarded at its length or at its check. -/
  | bad
  /-- The frame is accepted, with the bytes after it. -/
  | complete (f : Frame) (rest : List Byte)
deriving DecidableEq, Repr

/-- Read the bytes of a frame from its start byte on (R191). -/
def parseFrame : List Byte → Parsed
  | _start :: kind :: channel :: tag :: l0 :: l1 :: body =>
    let len := (l1 ++ l0).toNat
    if Config.payloadMax < len then .bad
    else if body.length < len + 2 then .incomplete .body
    else
      let payload := body.take len
      if wordBytes (checkOf (kind :: channel :: tag :: l0 :: l1 :: payload)) = (body.drop len).take 2 then
        .complete ⟨kind, channel, tag, payload⟩ (body.drop (len + 2))
      else .bad
  | _ => .incomplete .header

/-- What the bits of one inbound command bring about (R188, R191, R192). -/
inductive RxEvent where
  /-- The byte is not complete: the bits it has. -/
  | part (bits : List Bool)
  /-- The bits are more than the byte has left. -/
  | overrun
  /-- The byte is filler or frame content: the receiver's next state and bytes held. -/
  | gather (state : RxState) (bytes : List Byte)
  /-- A frame is discarded: the bytes taken into it after its start byte. -/
  | discard (bytes : List Byte)
  /-- A frame is accepted. -/
  | accept (f : Frame)
deriving DecidableEq, Repr

/-- The event of an inbound byte (R191, R192). -/
def byteEvent (l : Link) (b : Byte) : RxEvent :=
  match l.rxBytes with
  | [] => if b = startByte then .gather .header [b] else .gather .hunt []
  | start :: held =>
    match parseFrame (start :: (held ++ [b])) with
    | .incomplete st => .gather st (start :: (held ++ [b]))
    | .bad => .discard (held ++ [b])
    | .complete f _ => .accept f

/-- The event of inbound bits: they continue the byte that is being clocked in, which is complete at its eighth (R188). -/
def rxEvent (l : Link) (sdi : List Bool) : RxEvent :=
  let bits := l.spiBits ++ sdi
  if bits.length < 8 then .part bits
  else if bits.length = 8 then byteEvent l (byteOfBits bits)
  else .overrun

/-- The receiver after a byte; the next byte has no bits yet (R188, R191). -/
def State.setReceiver (s : State) (st : RxState) (bytes : List Byte) : State :=
  s.modLink fun l => { l with rxState := st, rxBytes := bytes, spiBits := [] }

/-- Raise the LINK notice (R200). -/
def State.raiseLink (s : State) (cause : LinkCause) (kind tag : Byte) : State :=
  s.raise deviceByte (.link cause kind tag)

/-- A discarded frame counts and raises LINK with cause BAD_FRAME (R192, R200). -/
def State.countBadFrame (s : State) : State :=
  (s.countDev fun d => { d with linkBadFrames := d.linkBadFrames + 1 }).raiseLink .badFrame 0 0

/-- A request frame joins the request queue, or is discarded when it holds 16 (R194). -/
def arriveRequest (s : State) (f : Frame) : State :=
  if s.link.requests.length < Config.requestMax then
    s.modLink fun l => { l with requests := l.requests ++ [f] }
  else
    (s.countDev fun d => { d with linkRequestsDropped := d.linkRequestsDropped + 1 }).raiseLink .requestDropped
      f.kind f.tag

/-- The kind of a TX_BLOCK (R208). -/
def txBlockKind : Byte := 0x20

/-- The kind of a REF_BLOCK (R208). -/
def refBlockKind : Byte := 0x21

/-- Dispatch an accepted frame by its kind (R193). -/
def dispatch (s : State) (f : Frame) : State :=
  if f.kind = txBlockKind then arriveTxBlock s f
  else if f.kind = refBlockKind then arriveRefBlock s f
  else arriveRequest s f

/-- The second pass of R192: the bytes that followed a discarded frame's start byte are examined again, as filler or as a
possible start. Frames found in them are received normally, and further discards count. Each call leaves at least one byte
behind, so the number of bytes is fuel enough. -/
def rescan : Nat → List Byte → State → State
  | 0, _, s => s.setReceiver .hunt []
  | _ + 1, [], s => s.setReceiver .hunt []
  | n + 1, b :: bs, s =>
    if b ≠ startByte then rescan n bs s
    else
      match parseFrame (b :: bs) with
      | .incomplete st => s.setReceiver st (b :: bs)
      | .bad => rescan n bs s.countBadFrame
      | .complete f rest => rescan n rest (dispatch s f)

/-- INBOUND_BYTE: the byte is not complete, and its bits are held, or it neither completes nor discards a frame (R188,
R191). -/
def execInboundByte (sdi : List Bool) (s : State) : StepResult :=
  unlessHeld s <|
    match rxEvent s.link sdi with
    | .part bits => (s.modLink fun l => { l with spiBits := bits }).done
    | .gather st bytes => (s.setReceiver st bytes).done
    | .overrun | .discard _ | .accept _ => .refused .otherInboundEvent

/-- BAD_FRAME: the byte at which a frame is discarded; the second pass follows in the same act (R192; log entry 8). -/
def execBadFrame (sdi : List Bool) (s : State) : StepResult :=
  unlessHeld s <|
    match rxEvent s.link sdi with
    | .discard bytes => (rescan bytes.length bytes ((s.setReceiver .hunt []).countBadFrame)).done
    | .part _ | .overrun | .gather _ _ | .accept _ => .refused .otherInboundEvent

/-- REQUEST_ARRIVAL: the byte at which a request frame is accepted (R193, R194). -/
def execRequestArrival (sdi : List Bool) (s : State) : StepResult :=
  unlessHeld s <|
    match rxEvent s.link sdi with
    | .accept f =>
      if f.kind ≠ txBlockKind ∧ f.kind ≠ refBlockKind then (arriveRequest (s.setReceiver .hunt []) f).done
      else .refused .otherInboundEvent
    | .part _ | .overrun | .gather _ _ | .discard _ => .refused .otherInboundEvent

/-- TX_BLOCK: the byte at which a TX_BLOCK frame is accepted (R72 to R74, R193). -/
def execTxBlock (sdi : List Bool) (s : State) : StepResult :=
  unlessHeld s <|
    match rxEvent s.link sdi with
    | .accept f =>
      if f.kind = txBlockKind then (arriveTxBlock (s.setReceiver .hunt []) f).done
      else .refused .otherInboundEvent
    | .part _ | .overrun | .gather _ _ | .discard _ => .refused .otherInboundEvent

/-- REF_BLOCK: the byte at which a REF_BLOCK frame is accepted (R134 to R137, R193). -/
def execRefBlock (sdi : List Bool) (s : State) : StepResult :=
  unlessHeld s <|
    match rxEvent s.link sdi with
    | .accept f =>
      if f.kind = refBlockKind then (arriveRefBlock (s.setReceiver .hunt []) f).done
      else .refused .otherInboundEvent
    | .part _ | .overrun | .gather _ _ | .discard _ => .refused .otherInboundEvent

/-- The filler byte at a rise of NCS: one that was cut, as the inbound byte of its exchange was, is due again (R188). -/
def Link.fillerAtRise (l : Link) : Filler :=
  match l.filler with
  | .clocking => if l.spiBits = [] then .absent else .due
  | .absent => .absent
  | .due => .due

/-- CHIP_SELECT_RISE: the incomplete inbound byte is discarded; the outbound frame keeps its position, so an incomplete byte
of it is sent again whole, and so is an incomplete filler byte; SDO goes to high impedance (R188, R210; log entry 10). -/
def execChipSelectRise (s : State) : StepResult :=
  unlessHeld s (s.modLink fun l => { l with spiBits := [], sdo := none, filler := l.fillerAtRise }).done

/-! ### Sending -/

/-- The frame of a reply (R196, R208). -/
def replyFrame (r : Reply) : Frame := ⟨r.kind, r.channel, r.tag, payloadOf (resultWord r.code :: r.items)⟩

/-- The frame of a notice, with the content and occurrences as they stand (R199, R208). -/
def noticeFrame (n : Notice) : Frame :=
  ⟨noticeKind n.body, n.channel, 0, payloadOf (natWord n.occurrences :: noticeWords n.body)⟩

/-- The frame of an EQ_BLOCK (R201, R208). -/
def eqBlockFrame (b : EqBlock) : Frame := ⟨0x30, chanByte b.channel, 0, payloadOf (eqBlockWords b)⟩

/-- A frame begins with its start byte on SDO and no byte of it sent: the start byte counts as sent at its eighth clock
(R188, R202). -/
def Link.beginFrame (l : Link) (f : Frame) (source : OutSource) : Link :=
  { l with outFrame := some ⟨frameBytes f, 0, source⟩, sdo := some startByte, filler := .absent }

/-- A filler byte (R188). -/
def Link.sendFiller (l : Link) : Link := { l with sdo := some 0, filler := .clocking }

/-- The arbiter's choice: the oldest reply, otherwise the oldest notice, which leaves the list, otherwise the oldest
EQ_BLOCK, otherwise filler (R199, R202). -/
def Link.choose (l : Link) : Link :=
  match l.replies, l.notices, l.dataQueue with
  | r :: _, _, _ => l.beginFrame (replyFrame r) .reply
  | [], n :: ns, _ => { l with notices := ns }.beginFrame (noticeFrame n) .notice
  | [], [], b :: _ => l.beginFrame (eqBlockFrame b) (.eqBlock b.channel true)
  | [], [], [] => l.sendFiller

/-- The byte of an ARBITER_CHOICE: the filler byte that was cut, before any choice, or the arbiter's (R188, R202). -/
def Link.nextByte (l : Link) : Link := if l.filler = .due then l.sendFiller else l.choose

/-- ARBITER_CHOICE (R188, R202). -/
def execArbiterChoice (s : State) : StepResult :=
  unlessHeld s <|
    match s.link.outFrame with
    | none => (s.modLink Link.nextByte).done
    | some _ => .refused .outboundFrameInProgress

/-- A frame in progress has been sent whole: its reply or EQ_BLOCK leaves its queue, and a counted EQ_BLOCK counts (R130,
R204). -/
def State.completeFrame (s : State) (source : OutSource) : State :=
  let s1 := s.modLink fun l => { l with outFrame := none }
  match source with
  | .reply => s1.modLink fun l => { l with replies := l.replies.drop 1 }
  | .notice | .removed => s1
  | .eqBlock c counted =>
    let s2 := s1.modLink fun l => { l with dataQueue := l.dataQueue.drop 1 }
    if counted then s2.count c fun k => { k with eqBlocksSent := k.eqBlocksSent + 1 } else s2

/-- The byte on SDO after the frame has been sent up to a position, kept when no byte has been clocked (R188). -/
def Link.sentUpTo (l : Link) (o : OutFrame) (position : Nat) : Link :=
  { l with
    outFrame := some { o with position := position }
    sdo := if o.position < position then some (o.bytes.getD (position - 1) 0) else l.sdo }

/-- OUTBOUND_FRAME_COMPLETE: the host clocks bytes of the frame in progress; with its last check byte the frame is
complete (R204; log entry 9). -/
def execOutboundFrameComplete (bytes : Nat) (s : State) : StepResult :=
  unlessHeld s <|
    match s.link.outFrame with
    | none => .refused .noOutboundFrame
    | some o =>
      let position := min (o.position + bytes) o.bytes.length
      let s1 := s.modLink fun l => l.sentUpTo o position
      (if o.bytes.length ≤ o.position + bytes then s1.completeFrame o.source else s1).done

/-! ### Power-up and NRST -/

/-- The power-up state of every block (R206); the model's own fields stay. -/
def State.powerUp (s : State) : State := { State.reset with choice := s.choice, pending := s.pending }

/-- POWER_UP: power comes up or NRST rises (R206, R210). -/
def execPowerUp (s : State) : StepResult := s.powerUp.done

/-- Set the level of NRST (R210). -/
def State.setNrst (s : State) (low : Bool) : State := { s with nrstLow := low }

/-- NRST_HELD_LOW: NRST goes low and holds the part in its power-up state (R210; log entry 11). -/
def execNrstHeldLow (s : State) : StepResult := (s.powerUp.setNrst true).done

end Sys2Proof.Machine
end

