-- ==== Sys2Proof/Machine/SurveyRequests.lean ====
section
/-! DEFINITION. The requests SURVEY (R144, R145), SURVEY_CANCEL (R155) and QUALITY (R165). -/

namespace Sys2Proof.Machine

/-- A survey joins the tail of the queue and the arbiter runs (R145, R146). -/
def State.queueSurvey (s : State) (e : SurveyEntry) : State :=
  (({ s with dsu := { s.dsu with queue := s.dsu.queue ++ [e] } }).modCh e.channel
    fun ch => { ch with survey := .queued }).runArbiter

/-- The entries ahead of a channel's in the survey queue (R145). -/
def entriesAhead (c : ChanId) (queue : List SurveyEntry) : Nat :=
  (queue.takeWhile fun e => decide (e.channel ≠ c)).length

/-- The word after the survey state in SURVEY's reply: the correlator number, or the entries ahead (R145, R209). -/
def surveyPlace (s : State) (c : ChanId) : Word :=
  match s.dsu.unitOf c with
  | some i => natWord i.val
  | none => natWord (entriesAhead c s.dsu.queue)

/-- The items of SURVEY's reply, placed after the queueing and the grant (R145). -/
def surveyItems (s : State) (e : SurveyEntry) : List Word :=
  [natWord e.lo, natWord e.hi, natWord e.lagCount, surveyStateWord (s.ch e.channel).survey, surveyPlace s e.channel]

/-- OK, or ADJUSTED when the lags used differ from those given (R144). -/
def surveyCode (e : SurveyEntry) (lo hi : Nat) : ResultCode := if e.lo = lo ∧ e.hi = hi then .ok else .adjusted

/-- A SURVEY that passes its checks (R144, R145). -/
def startSurvey (s : State) (e : SurveyEntry) (lo hi : Nat) : Answer :=
  ⟨s.queueSurvey e, surveyCode e lo hi, surveyItems (s.queueSurvey e) e⟩

/-- SURVEY's checks in the order of R144. -/
def actSurvey (s : State) (f : Frame) (c : ChanId) : Answer :=
  inStates s c [.opened] <|
    if (s.ch c).survey ≠ .noSurvey then refuse s .already
    else
      startSurvey s
        (surveyEntryFor c (s.ch c).params.maxDelay (f.value 0) (f.value 1) (f.flag 2 0) (f.flag 2 1))
        (f.value 0) (f.value 1)

/-- SURVEY (R144). -/
def execSurvey (s : State) : StepResult := takeKind 0x1B (channelRequest (lengthIs 6) actSurvey) s

/-- SURVEY_CANCEL by the channel's survey state (R155; log entry 16). -/
def actSurveyCancel (s : State) (_ : Frame) (c : ChanId) : Answer :=
  inStates s c [.opened, .draining, .halted] <|
    match cancelRecord s c with
    | some r => ⟨s.cancelSurvey c, .ok, recordWords r⟩
    | none => ⟨s, .notFound, optionRecordWords (s.ch c).lastResult⟩

/-- SURVEY_CANCEL (R155). -/
def execSurveyCancel (s : State) : StepResult := takeKind 0x1C (channelRequest (lengthIs 0) actSurveyCancel) s

/-- A quality figure in a reply: measured flag, value or 0, verdict (R165). -/
def figureWords (value : Option Nat) (threshold : Nat) : List Word :=
  optionWords value ++ [verdictWord (verdict value threshold)]

/-- The items of QUALITY, in order (R165). -/
def qualityItems (ch : Channel) : List Word :=
  [chanStateWord ch.state] ++ figureWords ch.erle ch.params.erleMin ++ figureWords ch.mse ch.params.mseMin
    ++ [natWord ch.params.erleMin, natWord ch.params.mseMin, armingWord ch.quality.erleArm,
      armingWord ch.quality.mseArm, natWord ch.quality.pRx, natWord ch.quality.pRes, natWord ch.quality.pErr,
      natWord ch.quality.errorCount, natWord ch.quality.slipTurns]

/-- QUALITY changes nothing (R165). -/
def actQuality (s : State) (_ : Frame) (c : ChanId) : Answer :=
  inStates s c [.opened, .draining, .halted] ⟨s, .ok, qualityItems (s.ch c)⟩

/-- QUALITY (R165). -/
def execQuality (s : State) : StepResult := takeKind 0x1D (channelRequest (lengthIs 0) actQuality) s

end Sys2Proof.Machine
end

