-- ==== Sys2Proof/Machine/Dispatch.lean ====
section
/-! DEFINITION. The dispatch of a command to its meaning, one arm for each row of spec/opcode_table.json. -/

namespace Sys2Proof.Machine

def exec (i : Instr) (s : State) : Host.Outcome State Fault Refusal :=
  match i with
  | .powerUp => Sys2Proof.Machine.execPowerUp s
  | .huntSync hfs => Sys2Proof.Machine.execHuntSync hfs s
  | .frameEnd frame => Sys2Proof.Machine.execFrameEnd frame s
  | .slip hfs => Sys2Proof.Machine.execSlip hfs s
  | .highwayLoss hfs => Sys2Proof.Machine.execHighwayLoss hfs s
  | .trainExpiry c => Sys2Proof.Machine.execTrainExpiry c s
  | .extensionTaken c => Sys2Proof.Machine.execExtensionTaken c s
  | .leadInEnd c => Sys2Proof.Machine.execLeadInEnd c s
  | .windowEnd c => Sys2Proof.Machine.execWindowEnd c s
  | .drainTimeout c => Sys2Proof.Machine.execDrainTimeout c s
  | .chipSelectRise => Sys2Proof.Machine.execChipSelectRise s
  | .badFrame sdi => Sys2Proof.Machine.execBadFrame sdi s
  | .requestArrival sdi => Sys2Proof.Machine.execRequestArrival sdi s
  | .txBlock sdi => Sys2Proof.Machine.execTxBlock sdi s
  | .refBlock sdi => Sys2Proof.Machine.execRefBlock sdi s
  | .unknownKind => Sys2Proof.Machine.execUnknownKind s
  | .info => Sys2Proof.Machine.execInfo s
  | .reset => Sys2Proof.Machine.execReset s
  | .profileWrite => Sys2Proof.Machine.execProfileWrite s
  | .profileRead => Sys2Proof.Machine.execProfileRead s
  | .profileLock => Sys2Proof.Machine.execProfileLock s
  | .statsSnapshot => Sys2Proof.Machine.execStatsSnapshot s
  | .statsRead => Sys2Proof.Machine.execStatsRead s
  | .bind => Sys2Proof.Machine.execBind s
  | .quiesce => Sys2Proof.Machine.execQuiesce s
  | .release => Sys2Proof.Machine.execRelease s
  | .echoMode => Sys2Proof.Machine.execEchoMode s
  | .echoExtend => Sys2Proof.Machine.execEchoExtend s
  | .setDelay => Sys2Proof.Machine.execSetDelay s
  | .eqMode => Sys2Proof.Machine.execEqMode s
  | .tapsRead => Sys2Proof.Machine.execTapsRead s
  | .tapsWrite => Sys2Proof.Machine.execTapsWrite s
  | .checkpoint => Sys2Proof.Machine.execCheckpoint s
  | .restore => Sys2Proof.Machine.execRestore s
  | .survey => Sys2Proof.Machine.execSurvey s
  | .surveyCancel => Sys2Proof.Machine.execSurveyCancel s
  | .quality => Sys2Proof.Machine.execQuality s
  | .arbiterChoice => Sys2Proof.Machine.execArbiterChoice s
  | .outboundFrameComplete bytes => Sys2Proof.Machine.execOutboundFrameComplete bytes s
  | .inboundByte sdi => Sys2Proof.Machine.execInboundByte sdi s
  | .nrstHeldLow => Sys2Proof.Machine.execNrstHeldLow s

end Sys2Proof.Machine
end

