-- ==== Sys2Proof/Safety.lean ====
section
/-! DEFINITION. What stays true of the part: the invariants the spec states of its pools, lists, queues and contexts, each as
a property of one state, and the words the statements about requests share. -/

namespace Sys2Proof.Safety
open Sys2Proof.Machine

/-! ### Pools and maps -/

/-- The taps a channel holds of the pool: none while it is FREE (R67). -/
def heldTaps (ch : Channel) : Nat := if ch.state = .free then 0 else ch.params.taps

/-- The taps of all non-FREE channels plus the free tap pool total 7680 (R67). -/
def TapPool (s : State) : Prop := s.freeTaps + ∑ c : ChanId, heldTaps (s.ch c) = 7680

/-- Every page number 0..1279 is in exactly one place, the free page list or one channel's page list, and a FREE channel
holds no pages (R58 to R60). -/
def PagePlaces (s : State) : Prop :=
  (∀ p : Nat, s.freePages.count p + ∑ c : ChanId, (s.ch c).pages.count p = if p < 1280 then 1 else 0)
    ∧ ∀ c : ChanId, (s.ch c).state = .free → (s.ch c).pages = []

/-- A channel holds a slot exactly when it is not FREE, and the slot map entry of that slot, and no other, names that
channel (R30). -/
def SlotMap (s : State) : Prop :=
  ∀ c : ChanId, ((s.ch c).slot = none ↔ (s.ch c).state = .free)
    ∧ ∀ sl : SlotId, (s.ch c).slot = some sl ↔ s.slotOwner sl = some c

/-- The page pool and every input ring are in the canonical form (log entry 2). -/
def MemoryCanonical (s : State) : Prop := memWf s.pageMem = true ∧ ∀ c : ChanId, memWf (s.ch c).eq.ring = true

/-! ### Lists and queues -/

/-- At most one notice of each kind for each channel, occurrences in 1..255, and none for a FREE channel (R198). -/
def NoticeList (s : State) : Prop :=
  (s.link.notices.map fun n => (n.channel, noticeKind n.body)).Nodup
    ∧ (∀ n ∈ s.link.notices, 1 ≤ n.occurrences ∧ n.occurrences ≤ 255)
    ∧ ∀ n ∈ s.link.notices, ∀ c : ChanId, n.channel = chanByte c → (s.ch c).state ≠ .free

/-- At most 16 requests, 16 replies, 64 EQ_BLOCKs, fewer than 8 bits of an incomplete byte, and 320 samples in every
transmit queue (R74, R188, R194, R197, R201). -/
def QueueBounds (s : State) : Prop :=
  s.link.requests.length ≤ 16 ∧ s.link.replies.length ≤ 16 ∧ s.link.dataQueue.length ≤ 64 ∧ s.link.spiBits.length < 8
    ∧ ∀ c : ChanId, (s.ch c).level ≤ 320

/-- ATTN is asserted exactly while a reply, a notice, an EQ_BLOCK or an outbound frame is there (R189). -/
def AttnFollows (s : State) : Prop := s.link.attn = attnDue s.link

/-- The receiver is in HUNT with no bytes held, or holds the bytes of a frame that is not complete (R191). -/
def ReceiverState (l : Link) : Prop :=
  (l.rxState = .hunt ∧ l.rxBytes = [])
    ∨ (l.rxBytes.head? = some startByte ∧ parseFrame l.rxBytes = .incomplete l.rxState)

/-! ### Profiles -/

/-- Every field of a profile is within the range of R177. The flags field always is. -/
structure InRange (p : Profile) : Prop where
  near : 16 ≤ p.nearTaps ∧ p.nearTaps ≤ 128 ∧ p.nearTaps % 16 = 0
  far : p.farTaps ≤ 256 ∧ p.farTaps % 16 = 0
  delay : p.maxDelay ≤ 2047
  eq : 8 ≤ p.eqTaps ∧ p.eqTaps ≤ 64 ∧ p.eqTaps % 8 = 0
  block : p.blockSize = 10 ∨ p.blockSize = 20 ∨ p.blockSize = 40 ∨ p.blockSize = 80
  shifts : p.echoTrainShift ≤ 15 ∧ p.echoTrackShift ≤ 15 ∧ p.eqTrainShift ≤ 15 ∧ p.eqTrackShift ≤ 15
  window : 1 ≤ p.refWindow ∧ p.refWindow ≤ 8
  marks : 1 ≤ p.txStart ∧ p.txStart ≤ 320 ∧ 1 ≤ p.txLow ∧ p.txLow < p.txHigh ∧ p.txHigh ≤ 320
  levels : p.erleMin ≤ 45 ∧ p.mseMin ≤ 45 ∧ p.surveyMinConf ≤ 45

/-- No slot of the profile table and no channel's copy holds a field outside its range (R177, R185). -/
def ProfileRanges (s : State) : Prop :=
  (∀ k : Nat, InRange (s.profile k)) ∧ ∀ c : ChanId, InRange (s.ch c).params

/-! ### Channel contexts -/

/-- What R88, R66, R106 and R113 say of one non-FREE channel's echo state, span and cursors. -/
structure EchoState (ch : Channel) : Prop where
  near : ch.echo.near.length = ch.params.nearTaps
  far : ch.echo.far.length = ch.params.farTaps
  eqTaps : ch.eq.taps.length = ch.params.eqTaps
  delay : ch.echo.delay ≤ ch.params.maxDelay
  train : ch.echo.mode = .train ↔ 1 ≤ ch.echo.trainCount
  trainTop : ch.echo.trainCount ≤ 65535
  extension : ∀ n, ch.echo.extension = some n → ch.echo.mode = .train ∧ 1 ≤ n ∧ n ≤ 65535
  thenMode : ch.echo.thenMode ≠ .train
  checkpoint : ∀ k, ch.echo.checkpoint = some k →
    k.near.length = ch.params.nearTaps ∧ k.far.length = ch.params.farTaps ∧ k.delay ≤ ch.params.maxDelay
  strikes : ch.echo.strikes ≤ 2
  guard : ch.echo.guard ≤ 64
  span : max ch.params.nearTaps (ch.params.maxDelay + ch.params.farTaps) ≤ (ch.pages.length - 1) * 64
  cursors : ∀ set : TapSet, cursorOf ch set = 0 ∨ ∃ taps, tapsOf ch set = some taps ∧ cursorOf ch set < taps.length

/-- Every non-FREE channel's echo state is as R88, R66, R106 and R113 say. -/
def EchoStates (s : State) : Prop := ∀ c : ChanId, (s.ch c).state ≠ .free → EchoState (s.ch c)

/-- The `len` sequence numbers issued last before `next`, oldest first, across the wrap (R128, R131). -/
def lastSeqs (next : Word) : Nat → List Word
  | 0 => []
  | n + 1 => (next - BitVec.ofNat 16 (n + 1)) :: lastSeqs next n

/-- The pending-reference list holds at most P entries, which are the blocks issued last in order of issue, with B outputs
and positions each; it is empty in BYPASS and in HALTED (R124, R131, R133). -/
def PendingList (ch : Channel) : Prop :=
  ch.eq.pendingRefs.length ≤ ch.params.refWindow
    ∧ ch.eq.pendingRefs.map (·.seq) = lastSeqs ch.eq.nextSeq ch.eq.pendingRefs.length
    ∧ (∀ e ∈ ch.eq.pendingRefs,
        e.outputs.length = ch.params.blockSize ∧ e.positions.length = ch.params.blockSize)
    ∧ ch.eq.positions.length = ch.eq.outputs.length
    ∧ (ch.eq.mode = .bypass ∨ ch.state = .halted → ch.eq.pendingRefs = [])

/-- Every channel's pending-reference list is as R131 says. -/
def PendingLists (s : State) : Prop := ∀ c : ChanId, PendingList (s.ch c)

/-- The estimators, the error count and the slip turns are within their ranges (R10, R12, R161, R163). -/
def QualityRange (q : QualityPart) : Prop :=
  q.pRx ≤ 32767 ∧ q.pRes ≤ 32767 ∧ q.pErr ≤ 32767 ∧ q.errorCount ≤ 64 ∧ q.slipTurns ≤ 65535

/-- Every channel's quality state is within its ranges. -/
def QualityRanges (s : State) : Prop := ∀ c : ChanId, QualityRange (s.ch c).quality

/-! ### Surveys -/

/-- The lags of a queued or running survey: 1 to 512 of them, 4 apart, none beyond the channel's max_delay (R144). -/
def LagsFit (maxDelay : Nat) (e : SurveyEntry) : Prop :=
  1 ≤ e.lagCount ∧ e.lagCount ≤ 512 ∧ e.hi = e.lo + 4 * (e.lagCount - 1) ∧ e.hi ≤ maxDelay

/-- A held correlator has one sum for each lag and counts within their ranges (R143, R147, R148, R153). -/
def UnitOk (k : Correlator) : Prop :=
  k.sums.length = k.entry.lagCount ∧ k.leadIn ≤ 2048 ∧ k.window < 1024 ∧ k.restarts ≤ 2
    ∧ (k.phase = .leadIn → k.entry.probe = true ∧ k.leadIn < 2048)

/-- A channel is QUEUED exactly when an entry of the survey queue names it and RUNNING exactly when a held correlator
does; it appears at most once, and only while it is OPEN (R143, R146). -/
structure SurveyUnits (s : State) : Prop where
  queued : ∀ c : ChanId, (s.ch c).survey = .queued ↔ ∃ e ∈ s.dsu.queue, e.channel = c
  running : ∀ c : ChanId, (s.ch c).survey = .running ↔ ∃ i k, s.dsu.unit i = some k ∧ k.entry.channel = c
  queueOnce : (s.dsu.queue.map (·.channel)).Nodup
  unitOnce : ∀ i j k l, s.dsu.unit i = some k → s.dsu.unit j = some l → k.entry.channel = l.entry.channel → i = j
  opened : ∀ c : ChanId, (s.ch c).survey ≠ .noSurvey → (s.ch c).state = .opened
  queueLags : ∀ e ∈ s.dsu.queue, LagsFit (s.ch e.channel).params.maxDelay e
  unitLags : ∀ i k, s.dsu.unit i = some k → LagsFit (s.ch k.entry.channel).params.maxDelay k.entry
  unitOk : ∀ i k, s.dsu.unit i = some k → UnitOk k

/-- No correlator is idle while a survey waits (R146). -/
def NoIdleCorrelator (s : State) : Prop := s.dsu.queue = [] ∨ s.dsu.idleUnit = none

/-! ### Words the statements share -/

/-- The request `f` is at the head of the request queue, with `rest` behind it, the reply queue has room, and NRST is not
held low: the request processor takes it (R195). -/
structure Ready (s : State) (f : Frame) (rest : List Frame) : Prop where
  high : s.nrstLow = false
  head : s.link.requests = f :: rest
  room : s.link.replies.length < 16

/-- The state `s` with the request `f` taken off its queue and its one reply placed at the tail of the reply queue; ATTN is
asserted, since a reply waits (R189, R195, R196). -/
def answered (s : State) (f : Frame) (rest : List Frame) (code : ResultCode) (items : List Word) : State :=
  { s with link :=
      { s.link with
        requests := rest
        replies := s.link.replies ++ [⟨f.kind + 0x80, f.channel, f.tag, code, items⟩]
        attn := true } }

/-- A notice is raised, and ATTN is asserted, since a notice waits (R189, R198). -/
def noticed (s : State) (channel : Byte) (body : NoticeBody) : State :=
  { s with link := { s.link with notices := placeNotice channel body s.link.notices, attn := true } }

/-- The inbound bits complete the last check byte of a frame `f` whose check agrees, and NRST is not held low (R191). -/
structure Completes (s : State) (sdi : List Bool) (f : Frame) : Prop where
  high : s.nrstLow = false
  eight : s.link.spiBits.length + sdi.length = 8
  held : s.link.rxBytes ≠ []
  parse : parseFrame (s.link.rxBytes ++ [byteOfBits (s.link.spiBits ++ sdi)]) = .complete f []

/-- The frame sync input is found low at the bit clock `k` and high at the next (R18). -/
def RisesAfter (levels : List Bool) (k : Nat) : Prop := levels[k]? = some false ∧ levels[k + 1]? = some true

/-- The frame sync levels `hfs` at the bit clocks to come, after the level found last, bring no sync (R18). -/
def NoSync (s : State) (hfs : List Bool) : Prop := ∀ k : Nat, ¬ RisesAfter (s.highway.hfs :: hfs) k

/-- The frame sync levels `hfs` at the bit clocks to come, after the level found last, bring a sync at the last of them and
none before it (R18). -/
def SyncComes (s : State) (hfs : List Bool) : Prop :=
  ∃ n : Nat, hfs.length = n + 1 ∧ RisesAfter (s.highway.hfs :: hfs) n
    ∧ ∀ k : Nat, k < n → ¬ RisesAfter (s.highway.hfs :: hfs) k

/-- An accepted frame end before the work of any channel: the bit count is 0, one more frame is counted, and the drive set is
fixed with 0 in every mapped slot and the others undriven (R18, R20, R21, R31). -/
def frameBegun (s : State) : State :=
  { s with
    highway :=
      { s.highway with
        hfs := true
        bitCount := 0
        frameCounter := s.highway.frameCounter + 1
        drive := Vector.ofFn fun i => s.highway.slotMap[i.val].map fun _ => 0 }
    device := { s.device with frames := s.device.frames + 1 } }

/-- A slipped frame end before the work of any channel: as an accepted one, with one more slip counted and the HIGHWAY notice
raised with cause SLIP and the new frame counter (R23, R32). -/
def slipBegun (s : State) : State :=
  { frameBegun s with
    device := { s.device with frames := s.device.frames + 1, slips := s.device.slips + 1 }
    link :=
      { s.link with
        notices := placeNotice 0xFF (.highway .slip (s.highway.frameCounter + 1)) s.link.notices } }

/-- A DRAINING channel after a frame end: the frame is counted, and at the 800th the channel is HALTED with its pending entries
removed and counted missed (R48, R50, R52). -/
def drainCounted (ch : Channel) : Channel :=
  if ch.drainCount + 1 = 800 then
    { ch with
      drainCount := 800
      state := .halted
      eq := { ch.eq with pendingRefs := [] }
      counters :=
        { ch.counters with refsMissed := ch.counters.refsMissed + BitVec.ofNat 32 ch.eq.pendingRefs.length } }
  else { ch with drainCount := ch.drainCount + 1 }

/-- One channel's work at a frame end: an OPEN channel takes one turn, with its slot's sample of the receive data, or with none
at a slipped frame end; a DRAINING channel counts the frame, and its drain ends at the 800th with DRAINED of cause TIMEOUT
(R20, R23, R48, R50, R52). -/
def frameWork (hrd : Option (BitVec 1024)) (s : State) (c : ChanId) : State :=
  match (s.ch c).state, (s.ch c).slot with
  | .opened, some sl => turn s c sl (hrd.map fun bits => slotSample bits sl)
  | .draining, _ =>
    let counted := s.setCh c (drainCounted (s.ch c))
    if (s.ch c).drainCount + 1 = 800 then counted.raiseCh c (.drained .timeout (s.ch c).eq.pendingRefs.length)
    else counted
  | _, _ => s

/-- `t` is what a frame end leaves: from the part as it begins, every channel that is OPEN or DRAINING in `s`, and no other, does
its work once, in some order (section 3.3; log entry 4), and ATTN follows what then waits (R189). -/
def AllWorked (hrd : Option (BitVec 1024)) (s begun t : State) : Prop :=
  ∃ cs : List ChanId, cs.Nodup ∧ (∀ c : ChanId, c ∈ cs ↔ (s.ch c).state = .opened ∨ (s.ch c).state = .draining)
    ∧ let worked := cs.foldl (frameWork hrd) begun
      t = { worked with choice := s.choice + 1, link := { worked.link with attn := attnDue worked.link } }

/-- Whether the work of the channels at a frame end may touch a waiting notice: one of an OPEN channel of kind TX_LOW,
TRAIN_DONE, DIVERGED, SURVEY_DONE or QUALITY, or the DRAINED of a channel whose drain ends (R208). -/
def touchedByWork (s : State) (n : Notice) : Bool :=
  (List.finRange 40).any fun c => n.channel == chanByte c &&
    match (s.ch c).state with
    | .opened => [0x40, 0x42, 0x43, 0x44, 0x46].contains (noticeKind n.body)
    | .draining => noticeKind n.body == 0x45 && (s.ch c).drainCount + 1 == 800
    | _ => false

/-- The waiting notices that are not touched stand, in their order and with no other among them (R198). -/
def OthersStand (touched : Notice → Bool) (s t : State) : Prop :=
  t.link.notices.filter (fun n => !touched n) = s.link.notices.filter fun n => !touched n

/-- The receiver back in HUNT with no bytes held (R191). -/
def hunting (s : State) : State :=
  { s with link := { s.link with rxState := .hunt, rxBytes := [], spiBits := [] } }

/-- The row of the table that takes an inbound byte: the one whose event the byte brings about (R191 to R193). -/
def byteRow (s : State) (b : Byte) : Instr :=
  if s.link.rxBytes = [] then .inboundByte (byteBits b)
  else
    match parseFrame (s.link.rxBytes ++ [b]) with
    | .incomplete _ => .inboundByte (byteBits b)
    | .bad => .badFrame (byteBits b)
    | .complete f _ =>
      if f.kind = 0x20 then .txBlock (byteBits b)
      else if f.kind = 0x21 then .refBlock (byteBits b)
      else .requestArrival (byteBits b)

/-- Inbound bytes received one after the other, each by the row whose event it brings about (R191 to R193). -/
def receiveAll : List Byte → State → StepResult
  | [], s => .next s
  | b :: bs, s =>
    match exec (byteRow s b) s with
    | .next t => receiveAll bs t
    | .fault f => .fault f
    | .refused r => .refused r

/-- A channel's survey is over with a record: the survey state is NONE, the record is the last result, surveys_done rises
and SURVEY_DONE is raised (R150, R153, R155, R159). -/
def surveyOver (s : State) (c : ChanId) (r : SurveyRecord) : State :=
  (s.setCh c { s.ch c with
    survey := .noSurvey
    lastResult := some r
    counters := { (s.ch c).counters with surveysDone := (s.ch c).counters.surveysDone + 1 } }).raiseCh c (.surveyDone r)

/-- The correlator `i`, free again, passes to the oldest queued survey, whose probe starts from all ones when it probes; with
none waiting it is idle (R17, R146, R147; the count of the phase it is not in is 0, log entry 26). -/
def passedOn (s : State) (i : Fin 4) : State :=
  match s.dsu.queue with
  | [] => { s with dsu := { s.dsu with correlators := s.dsu.correlators.set i.val none } }
  | e :: rest =>
    ({ s with dsu := ⟨rest, s.dsu.correlators.set i.val
        (some ⟨e, if e.probe then .leadIn else .window, 0, 0, 0, List.replicate e.lagCount 0⟩)⟩ }).setCh e.channel
      { s.ch e.channel with
        survey := .running
        tx := { (s.ch e.channel).tx with
          probe := if e.probe then BitVec.allOnes 15 else (s.ch e.channel).tx.probe } }

/-- The record of a survey that ended without figures (R152). -/
def recordWithout (status : SurveyStatus) (e : SurveyEntry) (restarts : Nat) : SurveyRecord :=
  ⟨status, e.lo, e.hi, e.lagCount, e.probe, restarts, none, none⟩

/-- A code that refuses: every code but OK and ADJUSTED (R196). -/
def Refuses (code : ResultCode) : Prop := code ≠ .ok ∧ code ≠ .adjusted

/-- The row of the table that takes a request of a kind (R209). -/
def requestRow (kind : Byte) : Instr :=
  match kind.toNat with
  | 0x01 => .info
  | 0x02 => .reset
  | 0x03 => .profileWrite
  | 0x04 => .profileRead
  | 0x05 => .profileLock
  | 0x06 => .statsSnapshot
  | 0x07 => .statsRead
  | 0x10 => .bind
  | 0x11 => .quiesce
  | 0x12 => .release
  | 0x13 => .echoMode
  | 0x14 => .echoExtend
  | 0x15 => .setDelay
  | 0x16 => .eqMode
  | 0x17 => .tapsRead
  | 0x18 => .tapsWrite
  | 0x19 => .checkpoint
  | 0x1A => .restore
  | 0x1B => .survey
  | 0x1C => .surveyCancel
  | 0x1D => .quality
  | _ => .unknownKind

/-- The kinds of the channel requests (R209). -/
def isChannelKind (kind : Byte) : Bool := decide (0x10 ≤ kind.toNat) && decide (kind.toNat ≤ 0x1D)

/-- Whether a payload length is one that a request of the kind admits (R209). -/
def lengthAdmitted (kind : Byte) (len : Nat) : Bool :=
  match kind.toNat with
  | 0x03 => len == 36
  | 0x02 | 0x04 | 0x06 | 0x07 | 0x14 | 0x16 => len == 2
  | 0x10 | 0x15 => len == 4
  | 0x13 => len == 8
  | 0x17 | 0x1B => len == 6
  | 0x18 => decide (6 ≤ len) && decide (len ≤ 260) && decide (len % 2 = 0)
  | _ => len == 0

end Sys2Proof.Safety
end

