-- ==== Sys2Proof/Certificates/Slice0/Obligations.lean ====
section
/-! DEFINITION. The statements for the provers, one definition each. "NRST high" means that NRST is not held low. Log entry
numbers are those of notes/assumptions. -/

open Sys2Proof Sys2Proof.Machine Sys2Proof.Safety

/-! ### The step, power-up and NRST -/

/-- A step takes the command at the front of the queue and runs it with the queue's rest (log entry 1). -/
def Obligations.StepRunsFrontCommand : Prop :=
  ∀ (i : Instr) (rest : List Instr) (s : State), step { s with pending := i :: rest } = exec i { s with pending := rest }

/-- On an empty queue one bit clock passes, at which the frame sync input is found low (R18, R25, R27, R29): the model's
choice of log entry 6. With NRST low nothing happens (log entry 11); hunting without a reference the bit count stands (log
entry 7); hunting with one it rises to 3072 and holds; in SYNCED it rises, and at the clock that reaches 3072 the loss is
taken. -/
def Obligations.EmptyQueueIsOneBitClock : Prop :=
  ∀ s : State, s.pending = [] →
    (s.nrstLow = true → step s = .next s)
    ∧ (s.nrstLow = false → s.highway.state ≠ .synced → s.highway.reference = false →
        step s = .next { s with highway := { s.highway with hfs := false } })
    ∧ (s.nrstLow = false → s.highway.state ≠ .synced → s.highway.reference = true →
        step s = .next { s with highway :=
          { s.highway with hfs := false, bitCount := min (s.highway.bitCount + 1) 3072 } })
    ∧ (s.nrstLow = false → s.highway.state = .synced → s.highway.bitCount < 3071 →
        step s = .next { s with highway := { s.highway with hfs := false, bitCount := s.highway.bitCount + 1 } })
    ∧ (s.nrstLow = false → s.highway.state = .synced → s.highway.bitCount = 3071 →
        step s = exec (.highwayLoss [false]) s)

/-- No command touches the model's queue of waiting commands (log entry 1), and none makes the choice counter fall (log
entry 4). -/
def Obligations.CommandsKeepPending : Prop :=
  ∀ (i : Instr) (s t : State), exec i s = .next t → t.pending = s.pending ∧ s.choice ≤ t.choice

/-- While NRST is held low every command but the two of NRST and power leaves the part as it stands (R210; log entry 11). -/
def Obligations.HeldLowStandsStill : Prop :=
  ∀ (i : Instr) (s : State), s.nrstLow = true → i ≠ .powerUp → i ≠ .nrstHeldLow → exec i s = .next s

/-- POWER_UP and NRST_HELD_LOW set the whole part to its power-up state from any state, and that state is the one of R33,
R56, R143, R172, R173, R186 and R206. The model's own two fields stay. The model's choices: that the part stands in that
whole state while NRST is low, ATTN asserted (log entry 11); the fields of FREE channels that are not named (log entry 3);
the samples of the pages, 0 (log entry 2); SDO without a byte, no bits of an inbound byte and no filler byte (log entry 10);
the frame sync level held (log entry 24). -/
def Obligations.PowerUpState : Prop :=
  (∀ s : State, exec .powerUp s = .next { State.reset with choice := s.choice, pending := s.pending }
    ∧ exec .nrstHeldLow s = .next { State.reset with nrstLow := true, choice := s.choice, pending := s.pending })
  ∧ State.reset.highway.state = .hunt ∧ State.reset.highway.bitCount = 0 ∧ State.reset.highway.reference = false
  ∧ State.reset.highway.goodRun = 0 ∧ State.reset.highway.frameCounter = 0
  ∧ (∀ sl : SlotId, State.reset.highway.slotMap[sl.val] = none ∧ State.reset.highway.drive[sl.val] = none)
  ∧ (∀ c : ChanId, (State.reset.ch c).state = .free ∧ (State.reset.ch c).slot = none ∧ (State.reset.ch c).pages = []
      ∧ (State.reset.ch c).heldRx = 0 ∧ (State.reset.ch c).tx.probe = 0x7FFF
      ∧ (State.reset.ch c).counters = ⟨0, 0, 0, 0, 0, 0, 0, 0, 0, 0, 0, 0⟩)
  ∧ State.reset.freePages = List.range 1280 ∧ State.reset.freeTaps = 7680
  ∧ State.reset.dsu.queue = [] ∧ (∀ i : Fin 4, State.reset.dsu.unit i = none)
  ∧ (∀ k : Nat, State.reset.profile k = defaultProfile) ∧ State.reset.lock = false
  ∧ State.reset.device = ⟨0, 0, 0, 0, 0, 0⟩
  ∧ State.reset.snapshot.valid = false ∧ State.reset.snapshot.stamp = 0 ∧ State.reset.snapshot.cleared = false
  ∧ State.reset.snapshot.device = ⟨0, 0, 0, 0, 0, 0⟩
  ∧ (∀ c : ChanId, State.reset.snapshot.channels[c.val] = ⟨.free, ⟨0, 0, 0, 0, 0, 0, 0, 0, 0, 0, 0, 0⟩⟩)
  ∧ State.reset.link.rxState = .hunt ∧ State.reset.link.rxBytes = [] ∧ State.reset.link.requests = []
  ∧ State.reset.link.replies = [] ∧ State.reset.link.dataQueue = [] ∧ State.reset.link.outFrame = none
  ∧ State.reset.link.notices = [⟨0xFF, 1, .started⟩] ∧ State.reset.link.attn = true

/-- The power-up state satisfies every invariant stated below. -/
def Obligations.ResetMeetsInvariants : Prop :=
  TapPool State.reset ∧ PagePlaces State.reset ∧ SlotMap State.reset ∧ MemoryCanonical State.reset
    ∧ NoticeList State.reset ∧ QueueBounds State.reset ∧ AttnFollows State.reset ∧ ReceiverState State.reset.link
    ∧ ProfileRanges State.reset ∧ EchoStates State.reset ∧ PendingLists State.reset ∧ QualityRanges State.reset
    ∧ SurveyUnits State.reset ∧ NoIdleCorrelator State.reset

/-! ### The line highway -/

/-- HUNT_SYNC that does not complete acquisition (R18, R27): the first rise of the frame sync input is the sync; it becomes
the reference with bit count 0; the good-frame run rises by one at bit count 1024 from a reference and is 0 otherwise.
Nothing else changes. -/
def Obligations.HuntSyncMeasuresSpacing : Prop :=
  ∀ (s : State) (hfs : List Bool), s.nrstLow = false → AttnFollows s → s.highway.state ≠ .synced → SyncComes s hfs →
    (¬ (s.highway.reference = true ∧ min (s.highway.bitCount + hfs.length) 3072 = 1024) →
      exec (.huntSync hfs) s
        = .next { s with highway :=
            { s.highway with hfs := true, bitCount := 0, reference := true, goodRun := 0 } })
    ∧ (s.highway.reference = true → s.highway.bitCount + hfs.length = 1024 → s.highway.goodRun ≠ 1 →
      exec (.huntSync hfs) s
        = .next { s with highway :=
            { s.highway with hfs := true, bitCount := 0, reference := true, goodRun := s.highway.goodRun + 1 } })

/-- HUNT_SYNC that completes acquisition (R28): SYNCED at bit count 0 with the frame counter as it stood; the HIGHWAY notice
with cause SYNC; every OPEN channel guarded for 64 turns and every other channel untouched; a window that had begun begins
again with sums 0 and its restarts kept, a lead-in stands; every mapped slot driven with 0 and no other; the rest stands. -/
def Obligations.AcquisitionCompletes : Prop :=
  ∀ (s : State) (hfs : List Bool), s.nrstLow = false → s.highway.state ≠ .synced → SyncComes s hfs →
    s.highway.reference = true → s.highway.bitCount + hfs.length = 1024 → s.highway.goodRun = 1 →
    ∃ t : State, exec (.huntSync hfs) s = .next t
      ∧ t.highway.state = .synced ∧ t.highway.bitCount = 0 ∧ t.highway.hfs = true
      ∧ t.highway.frameCounter = s.highway.frameCounter ∧ t.highway.slotMap = s.highway.slotMap
      ∧ (∀ sl : SlotId, t.highway.drive[sl.val] = if s.slotOwner sl = none then none else some 0)
      ∧ (∀ c : ChanId, t.ch c =
          if (s.ch c).state = .opened then { s.ch c with echo := { (s.ch c).echo with guard := 64 } } else s.ch c)
      ∧ t.dsu.queue = s.dsu.queue
      ∧ (∀ (i : Fin 4) (k : Correlator), s.dsu.unit i = some k →
          t.dsu.unit i = some (if k.phase = .window then { k with window := 0, sums := List.replicate k.sums.length 0 }
            else k))
      ∧ (∀ i : Fin 4, s.dsu.unit i = none → t.dsu.unit i = none)
      ∧ t.link = { s.link with
          notices := placeNotice 0xFF (.highway .sync s.highway.frameCounter) s.link.notices, attn := true }
      ∧ t.pageMem = s.pageMem ∧ t.freePages = s.freePages ∧ t.freeTaps = s.freeTaps ∧ t.profiles = s.profiles
      ∧ t.lock = s.lock ∧ t.device = s.device ∧ t.snapshot = s.snapshot ∧ t.nrstLow = false

/-- FRAME_END (R18, R20, R21, R31, R43, R46, R48, R50, R148): the part as the frame end begins it, then the work of every OPEN
and DRAINING channel once, in some order (the free order of log entry 4). Whatever the order, the counts rise by one;
every OPEN channel takes one turn with its slot's sample of the receive data, which becomes its held sample and steps P_rx,
its guard falls by one, its index rises by one, and its slot is driven; a correlator's lead-in count rises and opens the
window at 2048, a window that does not end counts the turn, and while none ends no survey is granted; a DRAINING channel
counts the frame and times out at 800, with DRAINED of cause TIMEOUT (R52); other channels stand; a slot of a DRAINING or
HALTED channel is driven with 0 and an unmapped slot is undriven; waiting notices of other kinds and channels stand, and so
do the slot map, the pools, the profiles, the snapshot, the receiver, the requests, the replies and the outbound frame. -/
def Obligations.FrameEndTakesTurns : Prop :=
  ∀ (s : State) (hfs : List Bool) (hrd : BitVec 1024), s.nrstLow = false → s.highway.state = .synced →
    s.highway.bitCount + hfs.length = 1024 → SyncComes s hfs → SlotMap s → SurveyUnits s →
    ∃ t : State, exec (.frameEnd ⟨hfs, hrd⟩) s = .next t
      ∧ t.highway.state = .synced ∧ t.highway.bitCount = 0 ∧ t.highway.hfs = true
      ∧ t.highway.frameCounter = s.highway.frameCounter + 1 ∧ t.highway.slotMap = s.highway.slotMap
      ∧ t.device = { s.device with frames := s.device.frames + 1 }
      ∧ (∀ (c : ChanId) (sl : SlotId), (s.ch c).state = .opened → (s.ch c).slot = some sl →
          (t.ch c).state = .opened ∧ (t.ch c).slot = some sl ∧ (t.ch c).params = (s.ch c).params
            ∧ (t.ch c).pages = (s.ch c).pages
            ∧ (t.ch c).writeIndex = (s.ch c).writeIndex + 1 ∧ (t.ch c).heldRx = slotSample hrd sl
            ∧ (t.ch c).quality.pRx = powerStep (s.ch c).quality.pRx (slotSample hrd sl)
            ∧ (t.ch c).quality.pErr = (s.ch c).quality.pErr
            ∧ (t.ch c).quality.slipTurns = (s.ch c).quality.slipTurns
            ∧ (t.ch c).echo.guard = (s.ch c).echo.guard - 1
            ∧ (t.ch c).eq.taps = (s.ch c).eq.taps ∧ (t.ch c).eq.mode = (s.ch c).eq.mode
            ∧ (t.ch c).cursors = (s.ch c).cursors
            ∧ ∃ x : Sample, t.highway.drive[sl.val] = some x)
      ∧ (∀ (i : Fin 4) (k : Correlator), s.dsu.unit i = some k →
          (k.phase = .leadIn → t.dsu.unit i = some (if k.leadIn + 1 = 2048
            then { k with leadIn := 2048, phase := .window, window := 0 } else { k with leadIn := k.leadIn + 1 }))
          ∧ (k.phase = .window → k.window + 1 ≠ 1024 → ∃ sums : List Int, sums.length = k.sums.length
            ∧ t.dsu.unit i = some { k with window := k.window + 1, sums := sums }))
      ∧ ((∀ i k, s.dsu.unit i = some k → k.phase = .window → k.window + 1 ≠ 1024) →
          t.dsu.queue = s.dsu.queue ∧ (∀ i, s.dsu.unit i = none → t.dsu.unit i = none)
            ∧ ∀ c, (t.ch c).survey = (s.ch c).survey)
      ∧ (∀ c : ChanId, (s.ch c).state = .draining → t.ch c = drainCounted (s.ch c))
      ∧ (∀ c : ChanId, (s.ch c).state = .draining → (s.ch c).drainCount + 1 = 800 → ∃ n ∈ t.link.notices,
          n.channel = chanByte c ∧ n.body = .drained .timeout (s.ch c).eq.pendingRefs.length)
      ∧ (∀ c : ChanId, (s.ch c).state = .free ∨ (s.ch c).state = .halted → t.ch c = s.ch c)
      ∧ (∀ sl : SlotId, s.slotOwner sl = none → t.highway.drive[sl.val] = none)
      ∧ (∀ (sl : SlotId) (c : ChanId), s.slotOwner sl = some c → (s.ch c).state ≠ .opened →
          t.highway.drive[sl.val] = some 0)
      ∧ t.freePages = s.freePages ∧ t.freeTaps = s.freeTaps ∧ t.profiles = s.profiles ∧ t.lock = s.lock
      ∧ t.snapshot = s.snapshot ∧ t.link.requests = s.link.requests ∧ t.link.replies = s.link.replies
      ∧ t.link.outFrame = s.link.outFrame ∧ t.link.rxBytes = s.link.rxBytes ∧ t.link.rxState = s.link.rxState
      ∧ t.link.spiBits = s.link.spiBits ∧ t.link.sdo = s.link.sdo ∧ t.link.filler = s.link.filler ∧ t.nrstLow = false
      ∧ t.highway.reference = s.highway.reference ∧ t.highway.goodRun = s.highway.goodRun
      ∧ OthersStand (touchedByWork s) s t
      ∧ AllWorked (some hrd) s (frameBegun s) t

/-- SLIP (R18, R21 to R24, R48, R50, R52, R148, R153, R163): the part as the slipped frame end begins it, with the HIGHWAY
notice of cause SLIP, then the work of every OPEN and DRAINING channel once, in some order (the free order of log entry 4).
Whatever the order, the counts and slips rise by one; every OPEN channel takes its turn with its held sample, is guarded for
this turn and 63 more, so that its echo taps and D stand, marks SLIP unless its block ends here, counts a slip turn, and its
index rises; a lead-in counts the turn; a window restarts with window count and sums 0, and at its third restart the survey
ends SLIPPED, its correlator passing on; a DRAINING channel counts the frame and times out at 800, with DRAINED of cause
TIMEOUT; other channels stand; a slot of a DRAINING or HALTED channel is driven with 0 and an unmapped slot is undriven;
waiting notices of other kinds and channels stand, and so do the slot map, the pools, the profiles, the snapshot, the
receiver, the requests, the replies and the outbound frame. A correlator passed on has 0 in the count of the phase it is not
in (the model's choice, log entry 26). -/
def Obligations.SlippedFrameEnd : Prop :=
  (∀ (s : State) (hfs : List Bool), s.nrstLow = false → s.highway.state = .synced → SyncComes s hfs →
    s.highway.bitCount + hfs.length < 3072 → s.highway.bitCount + hfs.length ≠ 1024 → SlotMap s → SurveyUnits s →
    ∃ t : State, exec (.slip hfs) s = .next t
      ∧ t.highway.state = .synced ∧ t.highway.bitCount = 0 ∧ t.highway.hfs = true
      ∧ t.highway.frameCounter = s.highway.frameCounter + 1 ∧ t.highway.slotMap = s.highway.slotMap
      ∧ t.device = { s.device with frames := s.device.frames + 1, slips := s.device.slips + 1 }
      ∧ (∃ n ∈ t.link.notices, n.channel = 0xFF ∧ n.body = .highway .slip (s.highway.frameCounter + 1))
      ∧ (∀ (c : ChanId) (sl : SlotId), (s.ch c).state = .opened → (s.ch c).slot = some sl →
          (t.ch c).state = .opened ∧ (t.ch c).slot = some sl ∧ (t.ch c).params = (s.ch c).params
            ∧ (t.ch c).pages = (s.ch c).pages
            ∧ (t.ch c).writeIndex = (s.ch c).writeIndex + 1 ∧ (t.ch c).heldRx = (s.ch c).heldRx
            ∧ (t.ch c).quality.pRx = powerStep (s.ch c).quality.pRx (s.ch c).heldRx
            ∧ (t.ch c).quality.slipTurns = min ((s.ch c).quality.slipTurns + 1) 65535
            ∧ (t.ch c).echo.near = (s.ch c).echo.near ∧ (t.ch c).echo.far = (s.ch c).echo.far
            ∧ (t.ch c).echo.delay = (s.ch c).echo.delay ∧ (t.ch c).echo.guard = 63
            ∧ ((s.ch c).eq.outputs.length + 1 ≠ (s.ch c).params.blockSize → (t.ch c).eq.flags.slip = true)
            ∧ (t.ch c).eq.taps = (s.ch c).eq.taps ∧ ∃ x : Sample, t.highway.drive[sl.val] = some x)
      ∧ (∀ (i : Fin 4) (k : Correlator), s.dsu.unit i = some k →
          (k.phase = .leadIn → t.dsu.unit i = some (if k.leadIn + 1 = 2048
            then { k with leadIn := 2048, phase := .window, window := 0 } else { k with leadIn := k.leadIn + 1 }))
          ∧ (k.phase = .window → k.restarts < 2 → t.dsu.unit i = some
              { k with window := 0, sums := List.replicate k.sums.length 0, restarts := k.restarts + 1 })
          ∧ (k.phase = .window → k.restarts = 2 →
              (t.ch k.entry.channel).survey = .noSurvey
              ∧ (t.ch k.entry.channel).lastResult = some (recordWithout .slipped k.entry 3)
              ∧ (t.ch k.entry.channel).counters.surveysDone = (s.ch k.entry.channel).counters.surveysDone + 1
              ∧ ∃ n ∈ t.link.notices, n.channel = chanByte k.entry.channel
                  ∧ n.body = .surveyDone (recordWithout .slipped k.entry 3)))
      ∧ (∀ c : ChanId, (s.ch c).state = .draining → t.ch c = drainCounted (s.ch c))
      ∧ (∀ c : ChanId, (s.ch c).state = .draining → (s.ch c).drainCount + 1 = 800 → ∃ n ∈ t.link.notices,
          n.channel = chanByte c ∧ n.body = .drained .timeout (s.ch c).eq.pendingRefs.length)
      ∧ (∀ c : ChanId, (s.ch c).state = .free ∨ (s.ch c).state = .halted → t.ch c = s.ch c)
      ∧ (∀ sl : SlotId, s.slotOwner sl = none → t.highway.drive[sl.val] = none)
      ∧ (∀ (sl : SlotId) (c : ChanId), s.slotOwner sl = some c → (s.ch c).state ≠ .opened →
          t.highway.drive[sl.val] = some 0)
      ∧ t.freePages = s.freePages ∧ t.freeTaps = s.freeTaps ∧ t.profiles = s.profiles ∧ t.lock = s.lock
      ∧ t.snapshot = s.snapshot ∧ t.link.requests = s.link.requests ∧ t.link.replies = s.link.replies
      ∧ t.link.outFrame = s.link.outFrame ∧ t.link.rxBytes = s.link.rxBytes ∧ t.link.rxState = s.link.rxState
      ∧ t.link.spiBits = s.link.spiBits ∧ t.link.sdo = s.link.sdo ∧ t.link.filler = s.link.filler ∧ t.nrstLow = false
      ∧ t.highway.reference = s.highway.reference ∧ t.highway.goodRun = s.highway.goodRun
      ∧ OthersStand (fun n => touchedByWork s n || n.channel == 0xFF && noticeKind n.body == 0x50) s t
      ∧ AllWorked none s (slipBegun s) t)
  ∧ ∀ (s : State) (sl : SlotId) (i : Fin 4) (k : Correlator), SurveyUnits s → NoIdleCorrelator s →
      s.dsu.unit i = some k → k.phase = .window → k.restarts = 2 →
      (turn s k.entry.channel sl none).dsu = (passedOn s i).dsu
        ∧ ∀ d : ChanId, d ≠ k.entry.channel → (turn s k.entry.channel sl none).ch d = (passedOn s i).ch d

/-- HIGHWAY_LOSS (R18, R19, R25, R26, R51), the bit count reaching 3072 with no sync before: LOST with good-frame run 0 and no
slot driven; a sync at count 3072 is the reference of the hunt, else there is none; the frame counter, slot map, surveys
and pools stand; sync_losses rises by one and HIGHWAY is raised with cause LOST; every DRAINING channel is HALTED with its
entries counted missed and DRAINED raised with cause LINE_LOST; every other channel and every other waiting notice stands. -/
def Obligations.HighwayLossTaken : Prop :=
  ∀ (s : State) (hfs : List Bool) (sync : Bool), s.nrstLow = false → s.highway.state = .synced →
    s.highway.bitCount < 3072 → s.highway.bitCount + hfs.length = 3072 →
    (if sync then SyncComes s hfs else NoSync s hfs) →
    ∃ t : State, exec (.highwayLoss hfs) s = .next t
      ∧ t.highway = { s.highway with
          state := .lost, hfs := hfs.getLastD false, bitCount := if sync then 0 else 3072, reference := sync, goodRun := 0
          drive := Vector.replicate 64 none }
      ∧ t.device = { s.device with syncLosses := s.device.syncLosses + 1 }
      ∧ (∀ c : ChanId, (s.ch c).state = .draining →
          t.ch c = { s.ch c with
              state := .halted
              eq := { (s.ch c).eq with pendingRefs := [] }
              counters :=
                { (s.ch c).counters with
                  refsMissed := (s.ch c).counters.refsMissed + BitVec.ofNat 32 (s.ch c).eq.pendingRefs.length } }
          ∧ ∃ n ∈ t.link.notices, n.channel = chanByte c
              ∧ n.body = .drained .lineLost (s.ch c).eq.pendingRefs.length)
      ∧ (∀ c : ChanId, (s.ch c).state ≠ .draining → t.ch c = s.ch c)
      ∧ (∃ n ∈ t.link.notices, n.channel = 0xFF ∧ n.body = .highway .lost s.highway.frameCounter)
      ∧ t.dsu = s.dsu ∧ t.pageMem = s.pageMem ∧ t.freePages = s.freePages ∧ t.freeTaps = s.freeTaps
      ∧ t.profiles = s.profiles ∧ t.lock = s.lock ∧ t.snapshot = s.snapshot
      ∧ t.link = { s.link with notices := t.link.notices, attn := true } ∧ t.nrstLow = false
      ∧ OthersStand (fun n => n.channel == 0xFF && noticeKind n.body == 0x50 || noticeKind n.body == 0x45
          && (List.finRange 40).any fun c => n.channel == chanByte c && decide ((s.ch c).state = .draining)) s t

/-! ### Turns -/

/-- The sample a turn drives is the one it writes to history (R44, R64, R80): after FRAME_END and SLIP the slot of an OPEN
channel is driven with the history sample of the turn's index, and every sample of the page pool that no OPEN channel's
turn writes reads as before. The addressing (R63, R65, R120): index i lies at ring position p, its residue modulo the ring
length R, in the page at entry p / 64 of the channel's list at offset p mod 64; lag k of turn n reads the position of index
n - k, negative or not; written at the turns i to i + k, fewer than R apart, every sample reads back at its lag; and lag k
of the input ring reads position (p - k) mod 1024. A read after a write gives the value written, and every other address
reads as before; an address nothing has written reads 0 (the model's choice, log entry 2). -/
def Obligations.DrivenSampleIsInHistory : Prop :=
  (∀ (s t : State) (hfs : List Bool) (hrd : BitVec 1024), s.nrstLow = false → SlotMap s → PagePlaces s →
    MemoryCanonical s → (∀ c : ChanId, (s.ch c).state = .opened → (s.ch c).pages ≠ []) →
    exec (.frameEnd ⟨hfs, hrd⟩) s = .next t ∨ exec (.slip hfs) s = .next t →
    (∀ (c : ChanId) (sl : SlotId), (s.ch c).state = .opened → (s.ch c).slot = some sl →
      t.highway.drive[sl.val] = some (historyRead t.pageMem (s.ch c).pages (s.ch c).writeIndex 0))
    ∧ ∀ a : Nat,
        (∀ c : ChanId, (s.ch c).state = .opened → a ≠ historyAddress (s.ch c).pages ((s.ch c).writeIndex : Int)) →
        memRead t.pageMem a = memRead s.pageMem a)
  ∧ (∀ (pages : List Nat) (page p : Nat) (i : Int), p < 64 * pages.length → ((64 * pages.length : Nat) : Int) ∣ i - p →
      pages[p / 64]? = some page → historyAddress pages i = 64 * page + p % 64)
  ∧ (∀ (m : SampleMem) (pages : List Nat) (n k : Nat),
      historyRead m pages n k = memRead m (historyAddress pages ((n : Int) - k)))
  ∧ (∀ (m : SampleMem) (pages : List Nat) (i k : Nat) (x : Nat → Sample), memWf m = true → pages.Nodup →
      k < 64 * pages.length →
      let written := (List.range (k + 1)).foldl (fun m j => historyWrite m pages (i + j) (x (i + j))) m
      ∀ j : Nat, j ≤ k → historyRead written pages (i + k) j = x (i + k - j))
  ∧ (∀ (ring : SampleMem) (p k q : Nat), q < 1024 → (1024 : Int) ∣ (p : Int) - k - q → inputRead ring p k = memRead ring q)
  ∧ (∀ a : Nat, memRead [] a = 0)
  ∧ ∀ (m : SampleMem) (a b : Nat) (v : Sample), memWf m = true →
      memRead (memWrite m a v) b = if b = a then v else memRead m b

/-- One turn of an OPEN channel, at a frame end or, with no sample, at a slipped one. Its sample (R17, R76 to R79, R81, R82,
R84): the probe output in a probe phase; 0 in PRIMING below tx_start; else the queue's head, which leaves, with RUNNING, TX_LOW
raised at a fall below an armed tx_low and TX_HIGH armed again; or 0, counted starved, in RUNNING with an empty queue. Its
filters, unless it completes a block (R5 to R8, R10, R90, R120, R126): the residual steps P_res, enters the input ring and is
equalized into the block; unguarded in TRAIN or TRACK the taps adapt; D and the far taps so adapted stand, unless the turn ends
a window whose result is applied, which sets D and zeroes the far taps (R16, R150, R160). Its train count (R95 to R97), unless
a divergence may follow: TRAIN falls by one, guarded or not; from 1 it takes the pending extension, or ends in the then-mode
with the checkpoint, TRAIN_DONE and the count of R96; other modes stand. A turn whose block then holds its B outputs is the
block boundary, run on what these stages leave, the train count step and the survey's among it, and the turn's end (R46, R126);
what the boundary does is said in BlockBoundaryCompletes. What the stages do not name stands: the channel's other fields, in a
block its seq, pending references, strikes and armings too, and the data queue; its slot's drive and one history sample apart
every slot and page; other kinds of notice; and, while no survey ends, every other channel and correlator (R43). -/
def Obligations.TurnRunsFilters : Prop :=
  ∀ (s : State) (c : ChanId) (sl : SlotId) (rx : Option Sample),
    let ch := s.ch c
    let v := rx.getD ch.heldRx
    let x := historyRead (transmitStage s c sl).pageMem ch.pages ch.writeIndex
    let r := saturate (v.toInt - echoEstimate ch.echo.near ch.echo.far ch.echo.delay x)
    let shift := if ch.echo.mode = .track then ch.params.echoTrackShift else ch.params.echoTrainShift
    let adapts := rx ≠ none ∧ ch.echo.mode ≠ .hold ∧ ch.echo.guard = 0
    let near := if adapts then adaptFrom r (14 + shift) x 0 ch.echo.near else ch.echo.near
    let far := if adapts then adaptFrom r (14 + shift) x ch.echo.delay ch.echo.far else ch.echo.far
    let ring := memWrite ch.eq.ring (ch.writeIndex % 1024) r
    let y := if ch.eq.mode = .bypass then r else equalize ch.eq.taps (inputRead ring (ch.writeIndex % 1024))
    let u := turn s c sl rx
    let t := u.ch c
    let inside := ch.eq.outputs.length + 1 ≠ ch.params.blockSize
    let probing := ∃ i k, s.dsu.unit i = some k ∧ k.entry.channel = c ∧ k.entry.probe = true
    let starves := ¬ probing ∧ ch.tx.state = .running ∧ ch.tx.queue = []
    let sends (tx : TxPart) (out : Sample) (starved : Count) : Prop :=
      t.tx = tx ∧ u.highway.drive[sl.val] = some out ∧ t.counters.txSamplesStarved = starved
    let marked (f : BlockFlags) : Prop :=
      (f.slip = true ↔ ch.eq.flags.slip = true ∨ rx = none)
      ∧ (f.starved = true ↔ ch.eq.flags.starved = true ∨ starves)
      ∧ (f.probe = true ↔ ch.eq.flags.probe = true ∨ probing)
      ∧ (f.echoAdapt = true ↔ ch.eq.flags.echoAdapt = true ∨ adapts)
    let applies (k : Correlator) : Prop :=
      rx ≠ none ∧ k.entry.channel = c ∧ k.phase = .window ∧ k.window + 1 = 1024 ∧ k.entry.apply = true
        ∧ ch.params.surveyMinConf ≤ (surveyFigures k.entry.lo (addProducts x r k.entry.lo k.sums)).confidence
    let surveyed (e : EchoPart) : Prop :=
      ((∀ i k, s.dsu.unit i = some k → ¬ applies k) → e.delay = ch.echo.delay ∧ e.far = far)
      ∧ (SurveyUnits s → ∀ i k, s.dsu.unit i = some k → applies k →
          e.delay = min ch.params.maxDelay
              ((surveyFigures k.entry.lo (addProducts x r k.entry.lo k.sums)).peakLag - 8)
            ∧ e.far = List.replicate ch.echo.far.length 0)
    let trainStepped (a : Channel) (notices : List Notice) : Prop :=
      let trained (mode : EchoMode) (count : Nat) (extension : Option Nat) (k : Option Checkpoint) (done : Count) : Prop :=
        a.echo.mode = mode ∧ a.echo.trainCount = count ∧ a.echo.extension = extension ∧ a.echo.checkpoint = k
          ∧ a.counters.trainCompletions = done ∧ a.echo.thenMode = ch.echo.thenMode
      let done := ch.counters.trainCompletions
      (ch.echo.mode ≠ .train → trained ch.echo.mode ch.echo.trainCount ch.echo.extension ch.echo.checkpoint done)
      ∧ (ch.echo.mode = .train → 2 ≤ ch.echo.trainCount →
          trained .train (ch.echo.trainCount - 1) ch.echo.extension ch.echo.checkpoint done)
      ∧ (ch.echo.mode = .train → ch.echo.trainCount = 1 → ch.echo.extension = none →
          trained ch.echo.thenMode 0 none
            (if ch.params.autoCheckpoint then some ⟨near, far, ch.echo.delay⟩ else ch.echo.checkpoint) (done + 1)
          ∧ ∃ n ∈ notices, n.channel = chanByte c ∧ n.body = .trainDone ch.echo.thenMode ch.params.autoCheckpoint)
      ∧ ∀ n, ch.echo.mode = .train → ch.echo.trainCount = 1 → ch.echo.extension = some n →
          trained .train n none ch.echo.checkpoint done
    let lows (w : State) := w.link.notices.filter fun n => n.channel == chanByte c && noticeKind n.body == 0x40
    let endsSurvey : Prop := ∃ i k, s.dsu.unit i = some k ∧ k.entry.channel = c ∧ k.phase = .window
      ∧ (if rx = none then 2 ≤ k.restarts else k.window + 1 = 1024)
    let endsTraining := ch.echo.mode = .train ∧ ch.echo.trainCount ≤ 1 ∧ ch.echo.extension = none
    let onlyTouches (kinds : List Byte) (w : State) : Prop :=
      OthersStand (fun n => n.channel == chanByte c && kinds.contains (noticeKind n.body)) s w
    let stagesTouch (a : Channel) : Prop := a = { ch with
      writeIndex := a.writeIndex, heldRx := a.heldRx, tx := a.tx, survey := a.survey, lastResult := a.lastResult
      echo := { ch.echo with
        near := a.echo.near, far := a.echo.far, delay := a.echo.delay, mode := a.echo.mode, guard := a.echo.guard
        trainCount := a.echo.trainCount, extension := a.echo.extension, checkpoint := a.echo.checkpoint }
      eq := { ch.eq with
        ring := a.eq.ring, outputs := a.eq.outputs, positions := a.eq.positions, flags := a.eq.flags }
      quality := { ch.quality with
        pRx := a.quality.pRx, pRes := a.quality.pRes, slipTurns := a.quality.slipTurns }
      counters := { ch.counters with
        txSamplesStarved := a.counters.txSamplesStarved
        trainCompletions := a.counters.trainCompletions
        surveysDone := a.counters.surveysDone } }
    let partStands (w : State) : Prop :=
      (∃ out : Sample, w.highway = { s.highway with drive := s.highway.drive.set sl.val (some out) }
        ∧ w.pageMem = historyWrite s.pageMem ch.pages ch.writeIndex out)
      ∧ (∃ dsu channels notices dataQueue, w = { s with
          highway := w.highway, pageMem := w.pageMem, dsu := dsu, channels := channels
          link := { s.link with notices := notices, dataQueue := dataQueue } })
      ∧ (¬ endsSurvey →
          (∀ d : ChanId, d ≠ c → w.ch d = s.ch d) ∧ w.dsu.queue = s.dsu.queue
          ∧ (∀ i : Fin 4, (∀ k, s.dsu.unit i = some k → k.entry.channel ≠ c) → w.dsu.unit i = s.dsu.unit i)
          ∧ (w.ch c).survey = ch.survey ∧ (w.ch c).lastResult = ch.lastResult
          ∧ (w.ch c).counters.surveysDone = ch.counters.surveysDone
          ∧ onlyTouches [0x40, 0x42, 0x43, 0x46] w)
      ∧ onlyTouches [0x40, 0x42, 0x43, 0x44, 0x46] w ∧ (¬ endsTraining → onlyTouches [0x40, 0x43, 0x44, 0x46] w)
    partStands u
    ∧ (inside → stagesTouch t ∧ u.link.dataQueue = s.link.dataQueue ∧ onlyTouches [0x40, 0x42, 0x44] u)
    ∧ (t.writeIndex = ch.writeIndex + 1 ∧ t.heldRx = v ∧ t.quality.pRx = powerStep ch.quality.pRx v
      ∧ t.quality.pRes = powerStep ch.quality.pRes r
      ∧ t.quality.slipTurns = (if rx = none then min (ch.quality.slipTurns + 1) 65535 else ch.quality.slipTurns)
      ∧ t.echo.guard = (if rx = none then 63 else ch.echo.guard - 1) ∧ t.eq.ring = ring)
    ∧ (inside → t.eq.outputs = ch.eq.outputs ++ [y] ∧ t.eq.positions = ch.eq.positions ++ [ch.writeIndex % 1024]
        ∧ t.echo.near = near ∧ surveyed t.echo)
    ∧ (SurveyUnits s →
        let kept := ch.counters.txSamplesStarved
        (probing →
          sends { ch.tx with probe := (probeStep ch.tx.probe).2 } (probeSample (probeStep ch.tx.probe).1) kept
            ∧ lows u = lows s)
        ∧ (¬ probing → ch.tx.state = .priming → ch.tx.queue.length < ch.params.txStart →
            sends ch.tx 0 kept ∧ lows u = lows s)
        ∧ (¬ probing → ch.tx.state = .running ∨ ch.params.txStart ≤ ch.tx.queue.length →
            ∀ head rest, ch.tx.queue = head :: rest →
              let falls := rest.length < ch.params.txLow ∧ ch.tx.lowArm = .armed
              sends { ch.tx with
                  queue := rest
                  state := .running
                  lowArm := if falls then .disarmed else ch.tx.lowArm
                  highArm := if rest.length ≤ ch.params.txHigh then .armed else ch.tx.highArm } head kept
                ∧ (falls → ∃ n ∈ lows u, n.body = .txLow rest.length) ∧ (¬ falls → lows u = lows s))
        ∧ (starves → sends { ch.tx with state := .priming } 0 (kept + 1) ∧ lows u = lows s)
        ∧ (inside → ch.tx.state = .running ∨ 1 ≤ ch.params.txStart → marked t.eq.flags))
    ∧ (inside ∨ ch.params.divergenceGuard = false → trainStepped t u.link.notices)
    ∧ (¬ inside → ∃ w : State,
        let full := w.ch c
        full.params = ch.params ∧ full.eq.outputs = ch.eq.outputs ++ [y]
        ∧ full.eq.positions = ch.eq.positions ++ [ch.writeIndex % 1024] ∧ full.eq.ring = ring
        ∧ full.eq.taps = ch.eq.taps ∧ full.eq.mode = ch.eq.mode ∧ full.eq.nextSeq = ch.eq.nextSeq
        ∧ full.eq.pendingRefs = ch.eq.pendingRefs
        ∧ full.echo.near = near ∧ surveyed full.echo ∧ trainStepped full w.link.notices
        ∧ full.echo.guard = (if rx = none then 64 else ch.echo.guard) ∧ full.echo.strikes = ch.echo.strikes
        ∧ (ch.echo.extension ≠ none → full.echo.mode = ch.echo.mode)
        ∧ full.quality.pRx = powerStep ch.quality.pRx v ∧ full.quality.pRes = powerStep ch.quality.pRes r
        ∧ full.quality.erleArm = ch.quality.erleArm ∧ full.quality.mseArm = ch.quality.mseArm
        ∧ (SurveyUnits s → ch.tx.state = .running ∨ 1 ≤ ch.params.txStart → marked full.eq.flags)
        ∧ w.link.dataQueue = s.link.dataQueue ∧ stagesTouch full ∧ partStands w ∧ onlyTouches [0x40, 0x42, 0x44] w
        ∧ u = (boundary w c).setCh c { (boundary w c).ch c with
            echo := { ((boundary w c).ch c).echo with guard := ((boundary w c).ch c).echo.guard - 1 }
            writeIndex := ((boundary w c).ch c).writeIndex + 1 })

/-- A block boundary (R46, R104, R128, R129, R131, R132, R167) does its acts in order: the block is completed, the divergence
check runs on what that leaves, the quality crossing check on what the divergence check leaves, with the mode it leaves, and
the block under assembly is emptied. At completion the block takes the next seq; its EQ_BLOCK joins the outbound data queue,
or is dropped and counted when 64 wait; its pending entry is made in every mode but BYPASS, expiring the oldest of a full list
as missed. That the EQ_BLOCK carries the echo mode before the divergence action is the model's reading of log entry 20 (R46,
R104 and R129 say before it, R90 after it). -/
def Obligations.BlockBoundaryCompletes : Prop :=
  ∀ (s : State) (c : ChanId),
    let ch := s.ch c
    let room := s.link.dataQueue.length < 64
    let full := ch.params.refWindow ≤ ch.eq.pendingRefs.length
    let entry : PendingEntry := ⟨ch.eq.nextSeq, ch.eq.outputs, ch.eq.positions, ch.eq.flags.slip⟩
    let t := boundary s c
    let pendingRefs :=
      if ch.eq.mode = .bypass then ch.eq.pendingRefs
      else if full then ch.eq.pendingRefs.drop 1 ++ [entry] else ch.eq.pendingRefs ++ [entry]
    let dataQueue :=
      if room then s.link.dataQueue ++ [⟨c, ch.eq.nextSeq, ch.eq.flags, ch.echo.mode, ch.eq.mode, ch.eq.outputs⟩]
      else s.link.dataQueue
    let dropped := if room then ch.counters.eqBlocksDropped else ch.counters.eqBlocksDropped + 1
    let missed := if ch.eq.mode ≠ .bypass ∧ full then ch.counters.refsMissed + 1 else ch.counters.refsMissed
    let completed : State :=
      { s.setCh c { ch with
          eq := { ch.eq with nextSeq := ch.eq.nextSeq + 1, issued := true, pendingRefs := pendingRefs }
          counters := { ch.counters with eqBlocksDropped := dropped, refsMissed := missed } } with
        link := { s.link with dataQueue := dataQueue } }
    let checked := qualityCheck (divergenceCheck completed c) c
    t = checked.setCh c { checked.ch c with eq := { (checked.ch c).eq with
        outputs := [], positions := [], flags := ⟨false, false, false, false⟩ } }
      ∧ (t.ch c).eq = { ch.eq with
        nextSeq := ch.eq.nextSeq + 1
        issued := true
        outputs := []
        positions := []
        flags := ⟨false, false, false, false⟩
        pendingRefs := pendingRefs }
      ∧ t.link.dataQueue = dataQueue
      ∧ (t.ch c).counters.eqBlocksDropped = dropped ∧ (t.ch c).counters.refsMissed = missed
      ∧ ∀ d : ChanId, d ≠ c → t.ch d = s.ch d

/-- The divergence check (R103, R104, R105): strikes rise while the guard flag is set, the mode adapts, the guard is 0, P_rx
is at least 16 and P_res at least 2 P_rx, and are 0 otherwise. The third strike restores the checkpoint, or zeroes the taps
and keeps D, sets HOLD, ends training, counts the event and raises DIVERGED. -/
def Obligations.DivergenceRestores : Prop :=
  ∀ (s : State) (c : ChanId),
    let ch := s.ch c
    let due := ch.params.divergenceGuard = true ∧ ch.echo.mode ≠ .hold ∧ ch.echo.guard = 0 ∧ 16 ≤ ch.quality.pRx
      ∧ 2 * ch.quality.pRx ≤ ch.quality.pRes
    let acted (near far : List Sample) (delay : Nat) (what : Restored) : State :=
      (s.setCh c { ch with
          echo := { ch.echo with
            near := near, far := far, delay := delay, mode := .hold, trainCount := 0, extension := none, strikes := 0 }
          counters := { ch.counters with divergeEvents := ch.counters.divergeEvents + 1 } }).raiseCh c
        (.diverged what delay)
    (¬ due → divergenceCheck s c = s.setCh c { ch with echo := { ch.echo with strikes := 0 } })
    ∧ (due → ch.echo.strikes + 1 < 3 →
        divergenceCheck s c = s.setCh c { ch with echo := { ch.echo with strikes := ch.echo.strikes + 1 } })
    ∧ (due → 3 ≤ ch.echo.strikes + 1 → ch.echo.checkpoint = none →
        divergenceCheck s c
          = acted (List.replicate ch.echo.near.length 0) (List.replicate ch.echo.far.length 0) ch.echo.delay .zero)
    ∧ ∀ k, due → 3 ≤ ch.echo.strikes + 1 → ch.echo.checkpoint = some k →
        divergenceCheck s c = acted k.near k.far k.delay .checkpoint

/-- The quality crossing check (R167, R168, R169): an ARMED attribute that is checked, measured and below its threshold
disarms and is a crossing; a DISARMED one at or above the threshold plus 3, limited to 45, re-arms; otherwise armings stand.
QUALITY is raised exactly when there is a crossing, and nothing else changes. -/
def Obligations.QualityCrossings : Prop :=
  ∀ (s : State) (c : ChanId),
    let ch := s.ch c
    let falls (checked : Prop) (arm : Arming) (v : Option Nat) (low : Nat) : Prop :=
      checked ∧ arm = .armed ∧ ∃ n, v = some n ∧ n < low
    let rises (checked : Prop) (arm : Arming) (v : Option Nat) (low : Nat) : Prop :=
      checked ∧ arm = .disarmed ∧ ∃ n, v = some n ∧ min (low + 3) 45 ≤ n
    let erleFalls := falls (ch.echo.mode ≠ .train) ch.quality.erleArm ch.erle ch.params.erleMin
    let mseFalls := falls (ch.eq.mode = .track) ch.quality.mseArm ch.mse ch.params.mseMin
    let erleRises := rises (ch.echo.mode ≠ .train) ch.quality.erleArm ch.erle ch.params.erleMin
    let mseRises := rises (ch.eq.mode = .track) ch.quality.mseArm ch.mse ch.params.mseMin
    ∃ ea ma : Arming,
      (erleFalls → ea = .disarmed) ∧ (erleRises → ea = .armed)
      ∧ (¬ erleFalls → ¬ erleRises → ea = ch.quality.erleArm)
      ∧ (mseFalls → ma = .disarmed) ∧ (mseRises → ma = .armed) ∧ (¬ mseFalls → ¬ mseRises → ma = ch.quality.mseArm)
      ∧ let s1 := s.setCh c { ch with quality := { ch.quality with erleArm := ea, mseArm := ma } }
        (¬ erleFalls → ¬ mseFalls → qualityCheck s c = s1)
        ∧ (erleFalls → ¬ mseFalls → qualityCheck s c = s1.raiseCh c (.quality true false ch.erle ch.mse))
        ∧ (¬ erleFalls → mseFalls → qualityCheck s c = s1.raiseCh c (.quality false true ch.erle ch.mse))
        ∧ (erleFalls → mseFalls → qualityCheck s c = s1.raiseCh c (.quality true true ch.erle ch.mse))

/-! ### Counts that have run out (log entry 5) -/

/-- TRAIN_EXPIRY and EXTENSION_TAKEN, on a channel in TRAIN whose train count has reached 0 (R96, R97, R106, R118): with no
extension the then-mode is entered, the checkpoint is taken when auto_checkpoint is set, TRAIN_DONE is raised and the expiry
is counted; with one the count takes it and training goes on. Nothing else changes. -/
def Obligations.TrainCountAtZero : Prop :=
  ∀ (s : State) (c : ChanId), s.nrstLow = false → AttnFollows s → (s.ch c).state = .opened →
    (s.ch c).echo.mode = .train → (s.ch c).echo.trainCount = 0 →
    ((s.ch c).echo.extension = none →
      exec (.trainExpiry c) s = .next (noticed
        (s.setCh c { s.ch c with
          echo := { (s.ch c).echo with
            mode := (s.ch c).echo.thenMode
            trainCount := 0
            checkpoint :=
              if (s.ch c).params.autoCheckpoint then
                some ⟨(s.ch c).echo.near, (s.ch c).echo.far, (s.ch c).echo.delay⟩
              else (s.ch c).echo.checkpoint }
          counters := { (s.ch c).counters with trainCompletions := (s.ch c).counters.trainCompletions + 1 } })
        (chanByte c) (.trainDone (s.ch c).echo.thenMode (s.ch c).params.autoCheckpoint)))
    ∧ ∀ n : Nat, (s.ch c).echo.extension = some n →
        exec (.extensionTaken c) s
          = .next (s.setCh c { s.ch c with echo := { (s.ch c).echo with trainCount := n, extension := none } })

/-- LEAD_IN_END (R148): the correlator whose lead-in count has reached 2048 enters WINDOW with window count 0; nothing else
changes. A turn of a channel in LEAD_IN, slipped or not, counts one lead-in turn, and at 2048 the window opens in the same
turn. -/
def Obligations.LeadInEndOpensWindow : Prop :=
  (∀ (s : State) (c : ChanId) (i : Fin 4) (k : Correlator), s.nrstLow = false → AttnFollows s →
    (s.ch c).state = .opened → s.dsu.unitOf c = some i → s.dsu.unit i = some k → k.phase = .leadIn → k.leadIn = 2048 →
    exec (.leadInEnd c) s
      = .next { s with dsu :=
          { s.dsu with correlators := s.dsu.correlators.set i.val (some { k with phase := .window, window := 0 }) } })
  ∧ ∀ (s : State) (sl : SlotId) (rx : Option Sample) (i : Fin 4) (k : Correlator), SurveyUnits s →
      s.dsu.unit i = some k → k.phase = .leadIn →
      let counted : Correlator :=
        if k.leadIn + 1 = 2048 then { k with leadIn := 2048, phase := .window, window := 0 }
        else { k with leadIn := k.leadIn + 1 }
      (turn s k.entry.channel sl rx).dsu = ⟨s.dsu.queue, s.dsu.correlators.set i.val (some counted)⟩

/-- WINDOW_END and the window turns (R14, R15, R16, R146, R149, R150, R151, R152): an unslipped turn in WINDOW adds one
product for each lag and counts; the turn that brings the count to 1024, and the row WINDOW_END at 1024, form the figures:
the record becomes the last result, SURVEY_DONE is raised with it and surveys_done rises; a FOUND result with APPLY sets D
and zeroes the far taps, any other leaves them; the survey state is NONE and the correlator passes to the oldest queued
survey, or is idle when none waits. A correlator passed on has 0 in the count of the phase it is not in (the model's choice,
log entry 26). -/
def Obligations.WindowEndRecords : Prop :=
  ∀ (s : State) (c : ChanId) (i : Fin 4) (k : Correlator), NoIdleCorrelator s → (∀ e ∈ s.dsu.queue, e.channel ≠ c) →
    s.dsu.unit i = some k → k.phase = .window →
    let ch := s.ch c
    let found (sums : List Int) := ch.params.surveyMinConf ≤ (surveyFigures k.entry.lo sums).confidence
    let applies (sums : List Int) := found sums ∧ k.entry.apply = true
    let delay (sums : List Int) := min ch.params.maxDelay ((surveyFigures k.entry.lo sums).peakLag - 8)
    let record (sums : List Int) : SurveyRecord :=
      { status := if found sums then .found else .weak
        lo := k.entry.lo
        hi := k.entry.hi
        lagCount := k.entry.lagCount
        probe := k.entry.probe
        restarts := k.restarts
        figures := some (surveyFigures k.entry.lo sums)
        appliedDelay := if applies sums then some (delay sums) else none }
    (s.nrstLow = false → ch.state = .opened → s.dsu.unitOf c = some i → k.window = 1024 →
      ∃ t : State, exec (.windowEnd c) s = .next t
        ∧ t.ch c = { ch with
            echo := { ch.echo with
              delay := if applies k.sums then delay k.sums else ch.echo.delay
              far := if applies k.sums then List.replicate ch.echo.far.length 0 else ch.echo.far }
            survey := .noSurvey
            lastResult := some (record k.sums)
            counters := { ch.counters with surveysDone := ch.counters.surveysDone + 1 } }
        ∧ t.link = { s.link with
            notices := placeNotice (chanByte c) (.surveyDone (record k.sums)) s.link.notices, attn := true }
        ∧ t.dsu = (passedOn s i).dsu ∧ (∀ d : ChanId, d ≠ c → t.ch d = (passedOn s i).ch d)
        ∧ t.highway = s.highway ∧ t.pageMem = s.pageMem ∧ t.freePages = s.freePages ∧ t.freeTaps = s.freeTaps
        ∧ t.profiles = s.profiles ∧ t.lock = s.lock ∧ t.device = s.device ∧ t.snapshot = s.snapshot)
    ∧ (SurveyUnits s → k.entry.channel = c → ∀ (sl : SlotId) (v : Sample),
        let x := historyRead (transmitStage s c sl).pageMem ch.pages ch.writeIndex
        let r := saturate (v.toInt - echoEstimate ch.echo.near ch.echo.far ch.echo.delay x)
        let sums := addProducts x r k.entry.lo k.sums
        let t := turn s c sl (some v)
        (k.window + 1 ≠ 1024 → t.dsu = ⟨s.dsu.queue,
              s.dsu.correlators.set i.val (some { k with window := k.window + 1, sums := sums })⟩
          ∧ ∀ d : ChanId, d ≠ c → t.ch d = s.ch d)
        ∧ (k.window + 1 = 1024 → (t.ch c).survey = .noSurvey ∧ (t.ch c).lastResult = some (record sums)
          ∧ (t.ch c).counters.surveysDone = ch.counters.surveysDone + 1
          ∧ (∃ n ∈ t.link.notices, n.channel = chanByte c ∧ n.body = .surveyDone (record sums))
          ∧ (ch.eq.outputs.length + 1 ≠ ch.params.blockSize ∨ ch.params.divergenceGuard = false →
              (applies sums → (t.ch c).echo.delay = delay sums
                ∧ (t.ch c).echo.far = List.replicate ch.echo.far.length 0)
              ∧ (¬ applies sums → (t.ch c).echo.delay = ch.echo.delay))
          ∧ t.dsu = (passedOn s i).dsu ∧ ∀ d : ChanId, d ≠ c → t.ch d = (passedOn s i).ch d))

/-- DRAIN_TIMEOUT (R50, R52): a drain whose frame count has reached 800 ends; the entries left are removed and counted missed,
the channel is HALTED and DRAINED is raised with cause TIMEOUT and their number. Nothing else changes. -/
def Obligations.DrainTimeoutHalts : Prop :=
  ∀ (s : State) (c : ChanId), s.nrstLow = false → (s.ch c).state = .draining → (s.ch c).drainCount = 800 →
    exec (.drainTimeout c) s = .next (noticed
      (s.setCh c { s.ch c with
        state := .halted
        eq := { (s.ch c).eq with pendingRefs := [] }
        counters :=
          { (s.ch c).counters with
            refsMissed := (s.ch c).counters.refsMissed + BitVec.ofNat 32 (s.ch c).eq.pendingRefs.length } })
      (chanByte c) (.drained .timeout (s.ch c).eq.pendingRefs.length))

/-! ### Inbound bytes -/

/-- CHIP_SELECT_RISE and INBOUND_BYTE (R188, R191): bits that do not complete the byte are held, and more than the byte has
left are refused (the model's choice, log entry 8); the rise discards the bits of an incomplete byte, makes a filler byte of
the same exchange due again, and releases SDO (R210, section 11.10), and both streams keep their place. That `sdo` is then
none, and that bits held at the rise tell a filler byte that was cut, is log entry 10. A byte is made most significant bit
first. In HUNT 0xC3 starts a frame and any other byte is filler; while a frame is held a byte that leaves it incomplete is
content, 0xC3 included. Nothing else changes. -/
def Obligations.ReceiverGathers : Prop :=
  ∀ (s : State) (sdi : List Bool), s.nrstLow = false → AttnFollows s →
    let bits := s.link.spiBits ++ sdi
    let b := byteOfBits bits
    exec .chipSelectRise s = .next { s with link :=
        { s.link with
          spiBits := []
          sdo := none
          filler := if s.link.filler ≠ .clocking then s.link.filler else if s.link.spiBits = [] then .absent else .due } }
    ∧ (bits.length < 8 → exec (.inboundByte sdi) s = .next { s with link := { s.link with spiBits := bits } })
    ∧ (8 < bits.length → exec (.inboundByte sdi) s = .refused .otherInboundEvent)
    ∧ (bits.length = 8 → s.link.rxBytes = [] → b ≠ 0xC3 → exec (.inboundByte sdi) s = .next (hunting s))
    ∧ (bits.length = 8 → s.link.rxBytes = [] → b = 0xC3 → exec (.inboundByte sdi) s
        = .next { s with link := { s.link with rxState := .header, rxBytes := [0xC3], spiBits := [] } })
    ∧ ∀ st : RxState, bits.length = 8 → s.link.rxBytes ≠ [] → parseFrame (s.link.rxBytes ++ [b]) = .incomplete st →
        exec (.inboundByte sdi) s
          = .next { s with link := { s.link with rxState := st, rxBytes := s.link.rxBytes ++ [b], spiBits := [] } }

/-- BAD_FRAME (R192, R200): the command always completes, counts the discard and raises LINK with cause BAD_FRAME. The second
pass over the bytes after the discarded frame's start byte runs whole within it (the model's reading, log entry 8): with no
start byte among them the receiver hunts; when the first start byte begins a frame that is not complete, the receiver holds
that frame's bytes; when it begins a further bad frame, that one is discarded as if it had just been received; when it begins
a whole frame with no start byte after it, the frame is received as if just received, and when bytes stand after the frame,
whatever they are, the frame is dispatched first and these bytes are received then. The second pass as a whole is the
reception, one after the other, of every byte taken into the discarded frame after its start byte. -/
def Obligations.BadFrameIsDiscarded : Prop :=
  ∀ (s : State) (sdi : List Bool) (start : Byte) (held : List Byte), s.nrstLow = false →
    s.link.spiBits.length + sdi.length = 8 → s.link.rxBytes = start :: held →
    let b := byteOfBits (s.link.spiBits ++ sdi)
    parseFrame (start :: (held ++ [b])) = .bad →
    let counted : State := noticed
      { hunting s with device := { s.device with linkBadFrames := s.device.linkBadFrames + 1 } } 0xFF (.link .badFrame 0 0)
    let holding (bytes : List Byte) : State := { counted with link := { counted.link with rxBytes := bytes } }
    let found (f : Frame) (last : Byte) : Instr :=
      if f.kind = 0x20 then .txBlock (byteBits last) else if f.kind = 0x21 then .refBlock (byteBits last)
      else .requestArrival (byteBits last)
    (∃ t : State, exec (.badFrame sdi) s = .next t)
    ∧ exec (.badFrame sdi) s = receiveAll (held ++ [b]) counted
    ∧ ((0xC3 : Byte) ∉ held ++ [b] → exec (.badFrame sdi) s = .next counted)
    ∧ ∀ filler : List Byte, (0xC3 : Byte) ∉ filler →
        (∀ (tail : List Byte) (st : RxState), held ++ [b] = filler ++ 0xC3 :: tail →
          parseFrame (0xC3 :: tail) = .incomplete st →
          exec (.badFrame sdi) s
            = .next { counted with link := { counted.link with rxState := st, rxBytes := 0xC3 :: tail } })
        ∧ (∀ (body : List Byte) (last : Byte), held ++ [b] = filler ++ 0xC3 :: (body ++ [last]) →
          parseFrame (0xC3 :: (body ++ [last])) = .bad →
          exec (.badFrame sdi) s = exec (.badFrame (byteBits last)) (holding (0xC3 :: body)))
        ∧ ∀ (body rest : List Byte) (last : Byte) (f : Frame), held ++ [b] = filler ++ 0xC3 :: (body ++ last :: rest) →
          parseFrame (0xC3 :: (body ++ [last])) = .complete f [] →
          ((0xC3 : Byte) ∉ rest → exec (.badFrame sdi) s = exec (found f last) (holding (0xC3 :: body)))
          ∧ ∃ t : State, exec (found f last) (holding (0xC3 :: body)) = .next t
              ∧ exec (.badFrame sdi) s = receiveAll rest t

/-- REQUEST_ARRIVAL (R193, R194, R200): a completed frame that is no data block joins the tail of the request queue while it
holds fewer than 16, and is otherwise discarded, counted, and told by LINK with its kind and tag. Nothing is answered. -/
def Obligations.RequestJoinsOrDrops : Prop :=
  ∀ (s : State) (sdi : List Bool) (f : Frame), Completes s sdi f → AttnFollows s → f.kind ≠ 0x20 → f.kind ≠ 0x21 →
    (s.link.requests.length < 16 →
      exec (.requestArrival sdi) s
        = .next { hunting s with link := { (hunting s).link with requests := s.link.requests ++ [f] } })
    ∧ (16 ≤ s.link.requests.length →
      exec (.requestArrival sdi) s
        = .next (noticed
            { hunting s with device := { s.device with linkRequestsDropped := s.device.linkRequestsDropped + 1 } }
            0xFF (.link .requestDropped f.kind f.tag)))

/-- TX_BLOCK (R72, R73, R74, R81, R82, R83): a block for no channel 0..39, or for one that is not OPEN, is discarded and
counted unbound; one of the wrong length, or that does not fit in 320, is dropped and counted; any other joins the queue's
tail, arms TX_LOW at or above tx_low, and above tx_high raises an armed TX_HIGH once. Nothing else changes. -/
def Obligations.TxBlockTakenOrDropped : Prop :=
  ∀ (s : State) (sdi : List Bool) (f : Frame), Completes s sdi f → AttnFollows s → f.kind = 0x20 →
    let unbound : State := { hunting s with device := { s.device with unboundBlocks := s.device.unboundBlocks + 1 } }
    (40 ≤ f.channel.toNat → exec (.txBlock sdi) s = .next unbound)
    ∧ ∀ c : ChanId, f.channel = chanByte c →
        let ch := s.ch c
        let queue := ch.tx.queue ++ payloadWords f.payload
        let dropped := (hunting s).setCh c
          { ch with counters := { ch.counters with txBlocksDropped := ch.counters.txBlocksDropped + 1 } }
        let took (high : Arming) : State := (hunting s).setCh c
          { ch with tx := { ch.tx with
              queue := queue
              lowArm := if ch.params.txLow ≤ queue.length then .armed else ch.tx.lowArm
              highArm := high } }
        (ch.state ≠ .opened → exec (.txBlock sdi) s = .next unbound)
        ∧ (ch.state = .opened →
            (f.payload.length ≠ 2 * ch.params.blockSize ∨ 320 < ch.tx.queue.length + ch.params.blockSize) →
            exec (.txBlock sdi) s = .next dropped)
        ∧ (ch.state = .opened → f.payload.length = 2 * ch.params.blockSize →
            ch.tx.queue.length + ch.params.blockSize ≤ 320 →
            (¬ (ch.params.txHigh < queue.length ∧ ch.tx.highArm = .armed) →
              exec (.txBlock sdi) s = .next (took ch.tx.highArm))
            ∧ (ch.params.txHigh < queue.length → ch.tx.highArm = .armed →
              exec (.txBlock sdi) s = .next (noticed (took .disarmed) (chanByte c) (.txHigh queue.length))))

/-- REF_BLOCK that matches no entry (R134, R135): a block for no channel 0..39, or for one neither OPEN nor DRAINING, is
counted unbound; one of the wrong length is counted unknown, its seq unread; one at or behind the newest issued seq within
32767 is counted late; any other is counted unknown. Nothing else changes. -/
def Obligations.RefBlockWithoutMatch : Prop :=
  ∀ (s : State) (sdi : List Bool) (f : Frame), Completes s sdi f → AttnFollows s → f.kind = 0x21 →
    let unbound : State := { hunting s with device := { s.device with unboundBlocks := s.device.unboundBlocks + 1 } }
    (40 ≤ f.channel.toNat → exec (.refBlock sdi) s = .next unbound)
    ∧ ∀ c : ChanId, f.channel = chanByte c →
        let ch := s.ch c
        let behind := (ch.eq.nextSeq - 1 - f.word 0).toNat < 32768
        let unknown := (hunting s).setCh c
          { ch with counters := { ch.counters with refsUnknown := ch.counters.refsUnknown + 1 } }
        let late := (hunting s).setCh c
          { ch with counters := { ch.counters with refsLate := ch.counters.refsLate + 1 } }
        (ch.state = .free ∨ ch.state = .halted → exec (.refBlock sdi) s = .next unbound)
        ∧ (ch.state = .opened ∨ ch.state = .draining → f.payload.length ≠ 4 + 2 * ch.params.blockSize →
            exec (.refBlock sdi) s = .next unknown)
        ∧ (ch.state = .opened ∨ ch.state = .draining → f.payload.length = 4 + 2 * ch.params.blockSize →
            (∀ e ∈ ch.eq.pendingRefs, e.seq ≠ f.word 0) →
            (ch.eq.issued = true ∧ behind → exec (.refBlock sdi) s = .next late)
            ∧ (¬ (ch.eq.issued = true ∧ behind) → exec (.refBlock sdi) s = .next unknown))

/-- REF_BLOCK that matches an entry (R9, R49, R136, R137): the older entries leave as missed and the entry leaves. ERASE
counts it erased; TRAIN and TRACK apply its errors sample by sample with the mode's shift and count it applied; HOLD does
neither. A DRAINING channel whose list is then empty is HALTED and DRAINED is raised with cause EMPTY. -/
def Obligations.RefBlockMatch : Prop :=
  ∀ (s : State) (sdi : List Bool) (f : Frame) (c : ChanId) (older newer : List PendingEntry) (e : PendingEntry),
    Completes s sdi f → AttnFollows s → f.kind = 0x21 → f.channel = chanByte c →
    (s.ch c).state = .opened ∨ (s.ch c).state = .draining → f.payload.length = 4 + 2 * (s.ch c).params.blockSize →
    (s.ch c).eq.pendingRefs = older ++ e :: newer → (∀ o ∈ older, o.seq ≠ f.word 0) → e.seq = f.word 0 →
    let ch := s.ch c
    let missed := ch.counters.refsMissed + BitVec.ofNat 32 older.length
    let adapts := ch.eq.mode = .train ∨ ch.eq.mode = .track
    let shift := if ch.eq.mode = .track then ch.params.eqTrackShift else ch.params.eqTrainShift
    let refs := (payloadWords f.payload).drop 2
    let left : Channel := { ch with
      eq := { ch.eq with pendingRefs := newer }, counters := { ch.counters with refsMissed := missed } }
    let learned := applyErrors (12 + shift) left refs e.outputs e.positions
    let acted : Channel :=
      if f.flag 1 0 then
        { left with counters := { left.counters with refsErased := ch.counters.refsErased + 1 } }
      else if adapts then
        { left with
          eq := { left.eq with taps := learned.eq.taps }
          quality :=
            { left.quality with pErr := learned.quality.pErr, errorCount := learned.quality.errorCount }
          counters := { left.counters with refsApplied := ch.counters.refsApplied + 1 } }
      else left
    (ch.state = .opened ∨ newer ≠ [] → exec (.refBlock sdi) s = .next ((hunting s).setCh c acted))
    ∧ (ch.state = .draining → newer = [] →
        exec (.refBlock sdi) s
          = .next (noticed ((hunting s).setCh c { acted with state := .halted }) (chanByte c) (.drained .empty 0)))

/-! ### Outbound bytes -/

/-- ARBITER_CHOICE (R188, R199, R202): with no frame in progress the oldest reply is chosen, else the oldest notice, which
leaves the list, else the oldest EQ_BLOCK; its frame begins, its start byte on SDO and none of its bytes sent before the
eighth clock; with nothing waiting the byte is filler 0x00. A filler byte that was cut is sent again whole before anything is
chosen. SDO carries the byte's bits at its eight clocks, most significant first. Nothing else changes. -/
def Obligations.ArbiterChoosesInOrder : Prop :=
  ∀ s : State, s.nrstLow = false → s.link.outFrame = none → AttnFollows s →
    let begun (l : Link) (f : Frame) (source : OutSource) : Link :=
      { l with outFrame := some ⟨frameBytes f, 0, source⟩, sdo := some 0xC3, filler := .absent }
    let filled : State := { s with link := { s.link with sdo := some 0, filler := .clocking } }
    (∃ t : State, exec .arbiterChoice s = .next t
      ∧ ∀ clock : Nat, clock < 8 → t.link.sdoBit clock = t.link.sdo.map fun byte => byte.getMsbD clock)
    ∧ (s.link.filler = .due → exec .arbiterChoice s = .next filled)
    ∧ (∀ r rest, s.link.filler ≠ .due → s.link.replies = r :: rest →
      exec .arbiterChoice s = .next { s with link := begun s.link (replyFrame r) .reply })
    ∧ (∀ n rest, s.link.filler ≠ .due → s.link.replies = [] → s.link.notices = n :: rest →
      exec .arbiterChoice s = .next { s with link := begun { s.link with notices := rest } (noticeFrame n) .notice })
    ∧ (∀ q rest, s.link.filler ≠ .due → s.link.replies = [] → s.link.notices = [] → s.link.dataQueue = q :: rest →
      exec .arbiterChoice s = .next { s with link := begun s.link (eqBlockFrame q) (.eqBlock q.channel true) })
    ∧ (s.link.filler ≠ .due → s.link.replies = [] → s.link.notices = [] → s.link.dataQueue = [] →
      exec .arbiterChoice s = .next filled)

/-- OUTBOUND_FRAME_COMPLETE (R130, R197, R201, R204; log entry 9): bytes short of the last check byte advance the frame. With
the last one the frame is complete: a reply leaves the reply queue, an EQ_BLOCK leaves the data queue and is counted sent
unless its channel number was bound again, and a notice or an item a RESET removed takes nothing with it. At the clocks of
these bytes SDO carries their bits, each byte's most significant first, from the next byte of the frame on (R188). -/
def Obligations.OutboundFrameEnds : Prop :=
  ∀ (s : State) (o : OutFrame) (n : Nat), s.nrstLow = false → s.link.outFrame = some o → 1 ≤ n →
    o.position < o.bytes.length →
    let ended (l : Link) : Link :=
      { l with
        outFrame := none
        sdo := some (o.bytes.getD (o.bytes.length - 1) 0)
        attn := !l.replies.isEmpty || !l.notices.isEmpty || !l.dataQueue.isEmpty }
    (∀ j clock : Nat, clock < 8 → s.link.sdoBit (8 * j + clock)
      = if o.position + j < o.bytes.length then some ((o.bytes.getD (o.position + j) 0).getMsbD clock) else none)
    ∧ (o.position + n < o.bytes.length →
      exec (.outboundFrameComplete n) s = .next { s with link :=
        { s.link with
          outFrame := some { o with position := o.position + n }
          sdo := some (o.bytes.getD (o.position + n - 1) 0)
          attn := true } })
    ∧ (o.bytes.length ≤ o.position + n →
        (o.source = .reply → exec (.outboundFrameComplete n) s
          = .next { s with link := ended { s.link with replies := s.link.replies.drop 1 } })
        ∧ (o.source = .notice ∨ o.source = .removed →
          exec (.outboundFrameComplete n) s = .next { s with link := ended s.link })
        ∧ (∀ c, o.source = .eqBlock c true → exec (.outboundFrameComplete n) s
          = .next { s.setCh c { s.ch c with counters :=
                { (s.ch c).counters with eqBlocksSent := (s.ch c).counters.eqBlocksSent + 1 } } with
              link := ended { s.link with dataQueue := s.link.dataQueue.drop 1 } })
        ∧ ∀ c, o.source = .eqBlock c false → exec (.outboundFrameComplete n) s
          = .next { s with link := ended { s.link with dataQueue := s.link.dataQueue.drop 1 } })

/-! ### Device requests -/

/-- UNKNOWN_KIND and INFO (R195, R196, R205): a request of unknown kind is answered with reply kind 0x80 and the kind
received; INFO with the ten items of R205, the pools and the highway state as they stand, and STARTED carries the part code
and revision. Neither changes anything else. -/
def Obligations.UnknownKindAndInfo : Prop :=
  (∀ (s : State) (f : Frame) (rest : List Frame), Ready s f rest → requestRow f.kind = .unknownKind →
    exec .unknownKind s = .next { s with link := { s.link with
      requests := rest
      replies := s.link.replies ++ [⟨0x80, f.channel, f.tag, .unknownKind, [f.kind.setWidth 16]⟩]
      attn := true } })
  ∧ (∀ (s : State) (f : Frame) (rest : List Frame), Ready s f rest → f.kind = 0x01 → f.payload = [] →
    exec .info s = .next (answered s f rest .ok
      [0x0428, 1, 40, 64, 7680, BitVec.ofNat 16 s.freeTaps, 1280, BitVec.ofNat 16 s.freePages.length,
        if s.lock then 1 else 0,
        match s.highway.state with | .hunt => 0 | .synced => 1 | .lost => 2]))
  ∧ noticeWords .started = [0x0428, 1]

/-- RESET (R34, R57, R70, R158, R172, R173, R187, R207): every block takes its state after RESET from any state; slots 1..7
revert only when asked with the lock off; the reply queue holds the one reply, OK with PROFILES_KEPT; the samples of the
pages, the lock, the receiver and the requests behind it stay, and a frame in progress completes with no place in a queue. The
model's choices: the fields of FREE channels that the spec calls not observable (log entry 3), and the frame sync level last
found, which stays (log entry 24). -/
def Obligations.ResetReturnsEveryBlock : Prop :=
  ∀ (s : State) (f : Frame) (rest : List Frame), Ready s f rest → f.kind = 0x02 → f.payload.length = 2 →
    let revert := (f.word 0).getLsbD 0
    exec .reset s = .next { State.reset with
      highway := { State.reset.highway with hfs := s.highway.hfs }
      pageMem := s.pageMem
      profiles := if revert = true ∧ s.lock = false then Vector.replicate 7 defaultProfile else s.profiles
      lock := s.lock
      choice := s.choice
      pending := s.pending
      link := { s.link with
        requests := rest
        replies := [⟨0x82, f.channel, f.tag, .ok, [if revert = true ∧ s.lock = true then 1 else 0]⟩]
        notices := []
        dataQueue := []
        outFrame := s.link.outFrame.map fun o =>
          { o with source := if o.source = .notice then .notice else .removed }
        attn := true } }

/-- PROFILE_WRITE (R179, R180, R181): the checks in their order: slot index, slot 0, lock, then the fields in the order of
their numbers, the first that fails named with its value; a write that passes replaces the slot with the values received
and changes nothing else, and the profile it stores is within the ranges of R177. -/
def Obligations.ProfileWriteChecksThenStores : Prop :=
  ∀ (s : State) (f : Frame) (rest : List Frame), Ready s f rest → f.kind = 0x03 → f.payload.length = 36 →
    let p : Profile :=
      ⟨f.value 1, f.value 2, f.value 3, f.value 4, f.value 5, f.value 6, f.value 7, f.value 8, f.value 9, f.value 10,
        f.value 11, f.value 12, f.value 13, f.value 14, f.value 15, f.value 16, f.flag 17 0, f.flag 17 1⟩
    (f.value 0 = 0 ∨ 8 ≤ f.value 0 → exec .profileWrite s = .next (answered s f rest .badProfile [0]))
    ∧ (1 ≤ f.value 0 → f.value 0 ≤ 7 → s.lock = true → exec .profileWrite s = .next (answered s f rest .locked []))
    ∧ (1 ≤ f.value 0 → f.value 0 ≤ 7 → s.lock = false → ¬ InRange p →
        ∃ n : Nat, 1 ≤ n ∧ n ≤ 16 ∧ (n, f.value n, false) ∈ fieldChecks p
          ∧ (∀ (m v : Nat) (ok : Bool), (m, v, ok) ∈ fieldChecks p → m < n → ok = true)
          ∧ exec .profileWrite s = .next (answered s f rest .badProfile [BitVec.ofNat 16 n, f.word n]))
    ∧ (1 ≤ f.value 0 → f.value 0 ≤ 7 → s.lock = false → InRange p →
        ∃ t : State, exec .profileWrite s = .next (answered t f rest .ok [f.word 0])
          ∧ (∀ k : Nat, t.profile k = if k = f.value 0 then p else s.profile k) ∧ t = { s with profiles := t.profiles })

/-- PROFILE_READ (R182): a slot index above 7 is refused naming field 0; otherwise the reply carries the slot index, the
seventeen fields in order and the lock, and nothing changes. -/
def Obligations.ProfileReadReports : Prop :=
  ∀ (s : State) (f : Frame) (rest : List Frame), Ready s f rest → f.kind = 0x04 → f.payload.length = 2 →
    (8 ≤ f.value 0 → exec .profileRead s = .next (answered s f rest .badProfile [0]))
    ∧ (f.value 0 ≤ 7 →
        let p := s.profile (f.value 0)
        exec .profileRead s = .next (answered s f rest .ok
          ((f.word 0 :: [p.nearTaps, p.farTaps, p.maxDelay, p.eqTaps, p.blockSize, p.echoTrainShift, p.echoTrackShift,
              p.eqTrainShift, p.eqTrackShift, p.refWindow, p.txStart, p.txLow, p.txHigh, p.erleMin, p.mseMin,
              p.surveyMinConf, (if p.autoCheckpoint then 1 else 0) + (if p.divergenceGuard then 2 else 0)].map
                (BitVec.ofNat 16))
            ++ [if s.lock then 1 else 0])))

/-- PROFILE_LOCK (R183): an empty payload sets the lock on and answers OK, or ALREADY when it is on; either reply carries
the lock, on. No other command but POWER_UP and NRST_HELD_LOW takes the lock off (R184). -/
def Obligations.LockHoldsUntilPowerUp : Prop :=
  (∀ (s : State) (f : Frame) (rest : List Frame), Ready s f rest → f.kind = 0x05 → f.payload = [] →
    (s.lock = false → exec .profileLock s = .next (answered { s with lock := true } f rest .ok [1]))
    ∧ (s.lock = true → exec .profileLock s = .next (answered s f rest .already [1])))
  ∧ ∀ (i : Instr) (s t : State), i ≠ .powerUp → i ≠ .nrstHeldLow → s.lock = true → exec i s = .next t → t.lock = true

/-- STATS_SNAPSHOT (R173, R174): one act copies every live counter and channel state, the frame counter as stamp and the
CLEAR flag into the set, and with CLEAR sets every live counter to 0; the frame counter and all else stand. -/
def Obligations.SnapshotCopiesThenClears : Prop :=
  ∀ (s : State) (f : Frame) (rest : List Frame), Ready s f rest → f.kind = 0x06 → f.payload.length = 2 →
    let clear := (f.word 0).getLsbD 0
    ∃ t : State, exec .statsSnapshot s
        = .next (answered t f rest .ok
            [s.highway.frameCounter.setWidth 16, (s.highway.frameCounter >>> 16).setWidth 16, if clear then 1 else 0])
      ∧ t = { s with snapshot := t.snapshot, device := t.device, channels := t.channels }
      ∧ t.snapshot.valid = true ∧ t.snapshot.stamp = s.highway.frameCounter ∧ t.snapshot.cleared = clear
      ∧ t.snapshot.device = s.device
      ∧ (∀ c : ChanId, t.snapshot.channels[c.val] = ⟨(s.ch c).state, (s.ch c).counters⟩)
      ∧ t.device = (if clear then ⟨0, 0, 0, 0, 0, 0⟩ else s.device)
      ∧ ∀ c : ChanId, t.ch c = { s.ch c with
          counters := if clear then ⟨0, 0, 0, 0, 0, 0, 0, 0, 0, 0, 0, 0⟩ else (s.ch c).counters }

/-- STATS_READ (R176; counter order log entry 17): the device selector answers the set's head and the six device counters, a
channel selector its head, the channel's state and twelve counters, and a selector above 39 that is not the device's is
refused NO_CHANNEL. The reply reads the set and nothing changes. -/
def Obligations.StatsReadReportsSet : Prop :=
  ∀ (s : State) (f : Frame) (rest : List Frame), Ready s f rest → f.kind = 0x07 → f.payload.length = 2 →
    let set := s.snapshot
    let words (n : Count) : List Word := [n.setWidth 16, (n >>> 16).setWidth 16]
    let head : List Word :=
      (if set.valid then 1 else 0) :: (words set.stamp ++ [if set.cleared then 1 else 0])
    (f.word 0 = 0xFFFF → exec .statsRead s = .next (answered s f rest .ok
      (head ++ [set.device.frames, set.device.slips, set.device.syncLosses, set.device.linkBadFrames,
        set.device.linkRequestsDropped, set.device.unboundBlocks].flatMap words)))
    ∧ (40 ≤ f.value 0 → f.word 0 ≠ 0xFFFF → exec .statsRead s = .next (answered s f rest .noChannel []))
    ∧ ∀ c : ChanId, f.value 0 = c.val →
        let k := set.channels[c.val].counters
        exec .statsRead s = .next (answered s f rest .ok
          (head ++ (match set.channels[c.val].state with | .free => 0 | .opened => 1 | .draining => 2 | .halted => 3)
            :: [k.txSamplesStarved, k.txBlocksDropped, k.eqBlocksSent, k.eqBlocksDropped, k.refsApplied, k.refsErased,
              k.refsLate, k.refsMissed, k.refsUnknown, k.divergeEvents, k.trainCompletions, k.surveysDone].flatMap
                words))

/-! ### A call's life -/

/-- BIND (R39, R40, R41, R61, R62, R67, R68, R172): the checks in their order, each with its figures, and a refused BIND
changes nothing; an admitted one maps the slot, takes pages from the head of the free list and zeroes them, takes the taps,
copies the profile and sets the context of R41 with every counter 0. An EQ_BLOCK of the number's earlier call still going
out will not count (R204). -/
def Obligations.BindAdmitsInOrder : Prop :=
  ∀ (s : State) (f : Frame) (rest : List Frame) (c : ChanId), Ready s f rest → f.kind = 0x10 → f.channel = chanByte c →
    f.payload.length = 4 →
    let p := s.profile (f.value 1)
    let taps := p.nearTaps + p.farTaps + p.eqTaps
    let need := (max p.nearTaps (p.maxDelay + p.farTaps) + 63) / 64 + 1
    let pages := s.freePages.take need
    (64 ≤ f.value 0 → exec .bind s = .next (answered s f rest .malformed []))
    ∧ ∀ sl : SlotId, f.value 0 = sl.val →
        ((s.ch c).state ≠ .free → exec .bind s = .next (answered s f rest .wrongState []))
        ∧ ((s.ch c).state = .free → 8 ≤ f.value 1 → exec .bind s = .next (answered s f rest .badProfile [0]))
        ∧ ((s.ch c).state = .free → f.value 1 ≤ 7 →
            (s.slotOwner sl ≠ none → exec .bind s = .next (answered s f rest .slotBusy []))
            ∧ (s.slotOwner sl = none → s.freeTaps < taps → exec .bind s
                = .next (answered s f rest .noTaps [BitVec.ofNat 16 taps, BitVec.ofNat 16 s.freeTaps]))
            ∧ (s.slotOwner sl = none → taps ≤ s.freeTaps → s.freePages.length < need → exec .bind s
                = .next (answered s f rest .noPages [BitVec.ofNat 16 need, BitVec.ofNat 16 s.freePages.length]))
            ∧ (s.slotOwner sl = none → taps ≤ s.freeTaps → need ≤ s.freePages.length →
                ∃ t : State, exec .bind s
                    = .next (answered t f rest .ok [BitVec.ofNat 16 need, BitVec.ofNat 16 taps])
                  ∧ t.highway = { s.highway with slotMap := s.highway.slotMap.set sl.val (some c) }
                  ∧ t.freePages = s.freePages.drop need ∧ t.freeTaps = s.freeTaps - taps
                  ∧ (∀ a : Nat, memRead t.pageMem a = if a / 64 ∈ pages then 0 else memRead s.pageMem a)
                  ∧ t.ch c =
                      { state := .opened, slot := some sl, params := p, pages := pages, writeIndex := 0, heldRx := 0
                        tx := ⟨[], .priming, .disarmed, .armed, 0x7FFF⟩
                        echo :=
                          { near := List.replicate p.nearTaps 0, far := List.replicate p.farTaps 0, delay := 0
                            mode := .hold, trainCount := 0, extension := none, thenMode := .track
                            checkpoint := none, strikes := 0, guard := 0 }
                        eq :=
                          { taps := (List.replicate p.eqTaps (0 : Sample)).set (p.eqTaps / 2) 8192, mode := .hold
                            ring := [], outputs := [], positions := [], flags := ⟨false, false, false, false⟩
                            nextSeq := 0, issued := false, pendingRefs := [] }
                        quality := ⟨0, 0, 0, 0, 0, .armed, .armed⟩
                        survey := .noSurvey, lastResult := none, cursors := ⟨0, 0, 0, 0, 0⟩, drainCount := 0
                        counters := ⟨0, 0, 0, 0, 0, 0, 0, 0, 0, 0, 0, 0⟩ }
                  ∧ (∀ d : ChanId, d ≠ c → t.ch d = s.ch d)
                  ∧ t.link = { s.link with outFrame := s.link.outFrame.map fun o =>
                      { o with source := match o.source with
                        | .eqBlock d counted => if d = c then .eqBlock d false else .eqBlock d counted
                        | other => other } }
                  ∧ t = { s with highway := t.highway, freePages := t.freePages, freeTaps := t.freeTaps
                                 pageMem := t.pageMem, channels := t.channels, link := t.link }))

/-- QUIESCE (R38, R47, R49, R51, R52): refused in FREE and HALTED, ALREADY in DRAINING. On an OPEN channel without a survey
the queue and the block under assembly are emptied without a seq and the drain begins, to wait for references only while
some are pending and the highway is SYNCED; otherwise it ends in the same act, EMPTY or LINE_LOST, and the reply says
HALTED. A survey ends first, CANCELLED: a queued one leaves the queue, the correlator of a running one passes to the oldest
queued survey or is idle (R146, R155, R157). A correlator passed on has 0 in the count of the phase it is not in (the
model's choice, log entry 26). -/
def Obligations.QuiesceDrains : Prop :=
  ∀ (s : State) (f : Frame) (rest : List Frame) (c : ChanId), Ready s f rest → f.kind = 0x11 → f.channel = chanByte c →
    f.payload = [] → SurveyUnits s → NoIdleCorrelator s →
    let ch := (s.cancelSurvey c).ch c
    let draining : Channel := { ch with
      state := .draining
      tx := { ch.tx with queue := [] }
      eq := { ch.eq with outputs := [], positions := [], flags := ⟨false, false, false, false⟩ }
      drainCount := 0 }
    ((s.ch c).state = .free ∨ (s.ch c).state = .halted → exec .quiesce s = .next (answered s f rest .wrongState []))
    ∧ ((s.ch c).state = .draining → exec .quiesce s = .next (answered s f rest .already []))
    ∧ ((s.ch c).state = .opened → ((s.ch c).survey = .noSurvey → s.cancelSurvey c = s)
        ∧ (∀ e ∈ s.dsu.queue, e.channel = c → s.cancelSurvey c = { surveyOver s c (recordWithout .cancelled e 0) with
            dsu := { s.dsu with queue := s.dsu.queue.filter fun q => decide (q.channel ≠ c) } })
        ∧ (∀ i k, s.dsu.unit i = some k → k.entry.channel = c →
            s.cancelSurvey c = passedOn (surveyOver s c (recordWithout .cancelled k.entry k.restarts)) i)
        ∧ (ch.eq.pendingRefs = [] → exec .quiesce s
            = .next (answered (((s.cancelSurvey c).setCh c { draining with state := .halted }).raiseCh c
                (.drained .empty 0)) f rest .ok [3]))
        ∧ (ch.eq.pendingRefs ≠ [] → s.highway.state = .synced → exec .quiesce s
            = .next (answered ((s.cancelSurvey c).setCh c draining) f rest .ok [2]))
        ∧ (ch.eq.pendingRefs ≠ [] → s.highway.state ≠ .synced → exec .quiesce s
            = .next (answered (((s.cancelSurvey c).setCh c { draining with
                state := .halted
                eq := { draining.eq with pendingRefs := [] }
                counters := { ch.counters with
                  refsMissed := ch.counters.refsMissed + BitVec.ofNat 32 ch.eq.pendingRefs.length } }).raiseCh c
                (.drained .lineLost ch.eq.pendingRefs.length)) f rest .ok [3])))

/-- RELEASE (R54, R55, R69, R158, R199, R201): refused in FREE. Otherwise the channel is FREE with no slot and no pages and
its counters as they stood; its slot is unmapped and driven to the frame's end as it was; its pages join the free list's
tail in order and its taps return; its notices and waiting EQ_BLOCKs are withdrawn, one going out keeping its place; no
notice is raised. A queued survey of it leaves the queue, the correlator of a running one passes to the oldest queued survey
or is idle (R146); but for that grant all other channels stand. A correlator passed on has 0 in the count of the phase it is
not in (the model's choice, log entry 26). -/
def Obligations.ReleaseReturnsResources : Prop :=
  ∀ (s : State) (f : Frame) (rest : List Frame) (c : ChanId), Ready s f rest → f.kind = 0x12 → f.channel = chanByte c →
    f.payload = [] → SurveyUnits s → NoIdleCorrelator s →
    ((s.ch c).state = .free → exec .release s = .next (answered s f rest .wrongState []))
    ∧ ∀ sl : SlotId, (s.ch c).state ≠ .free → (s.ch c).slot = some sl →
        ∃ t : State, exec .release s = .next (answered t f rest .ok
            [BitVec.ofNat 16 (s.ch c).pages.length,
              BitVec.ofNat 16 ((s.ch c).params.nearTaps + (s.ch c).params.farTaps + (s.ch c).params.eqTaps)])
          ∧ (t.ch c).state = .free ∧ (t.ch c).slot = none ∧ (t.ch c).pages = []
          ∧ (t.ch c).counters = (s.ch c).counters
          ∧ t.highway = { s.highway with slotMap := s.highway.slotMap.set sl.val none }
          ∧ t.freePages = s.freePages ++ (s.ch c).pages
          ∧ t.freeTaps = s.freeTaps + ((s.ch c).params.nearTaps + (s.ch c).params.farTaps + (s.ch c).params.eqTaps)
          ∧ t.pageMem = s.pageMem ∧ t.device = s.device ∧ t.profiles = s.profiles ∧ t.lock = s.lock
          ∧ t.snapshot = s.snapshot
          ∧ t.link.notices = s.link.notices.filter (fun n => n.channel != chanByte c)
          ∧ (∀ q ∈ t.link.dataQueue, q ∈ s.link.dataQueue)
          ∧ ((∀ o d counted, s.link.outFrame = some o → o.source ≠ .eqBlock d counted) →
              t.link.dataQueue = s.link.dataQueue.filter fun q => decide (q.channel ≠ c))
          ∧ (∀ o d counted, s.link.outFrame = some o → o.source = .eqBlock d counted →
              t.link.dataQueue
                = s.link.dataQueue.take 1 ++ (s.link.dataQueue.drop 1).filter fun q => decide (q.channel ≠ c))
          ∧ t.link = { s.link with notices := t.link.notices, dataQueue := t.link.dataQueue }
          ∧ ((s.ch c).survey = .noSurvey → t.dsu = s.dsu)
          ∧ ((s.ch c).survey = .queued →
              t.dsu = { s.dsu with queue := s.dsu.queue.filter fun q => decide (q.channel ≠ c) })
          ∧ ((s.ch c).survey ≠ .running → ∀ d : ChanId, d ≠ c → t.ch d = s.ch d)
          ∧ (∀ i k, s.dsu.unit i = some k → k.entry.channel = c →
              t.dsu = (passedOn s i).dsu ∧ ∀ d : ChanId, d ≠ c → t.ch d = (passedOn s i).ch d)
          ∧ (∀ e ∈ t.dsu.queue, e.channel ≠ c) ∧ (∀ i k, t.dsu.unit i = some k → k.entry.channel ≠ c)

/-! ### Filter requests -/

/-- ECHO_MODE (R38, R91, R92, R93): MALFORMED for a mode that names none, and for TRAIN with a count of 0 or a then-mode that
is neither TRACK nor HOLD; then WRONG_STATE unless OPEN. HOLD and TRACK set the mode, train count 0, no extension, strikes
0, keeping the then-mode; TRAIN sets the count given or 8000 and the then-mode given or TRACK. Nothing else changes. -/
def Obligations.EchoModeSets : Prop :=
  ∀ (s : State) (f : Frame) (rest : List Frame) (c : ChanId), Ready s f rest → f.kind = 0x13 → f.channel = chanByte c →
    f.payload.length = 8 →
    let ch := s.ch c
    let count := if f.flag 1 0 then f.value 2 else 8000
    let after (mode : EchoMode) (n : Nat) (thenMode : EchoMode) : State := s.setCh c { ch with echo :=
      { ch.echo with mode := mode, trainCount := n, extension := none, thenMode := thenMode, strikes := 0 } }
    let badTrain := f.value 0 = 1 ∧
      ((f.flag 1 0 = true ∧ f.value 2 = 0) ∨ (f.flag 1 1 = true ∧ f.value 3 ≠ 0 ∧ f.value 3 ≠ 2))
    (3 ≤ f.value 0 ∨ badTrain → exec .echoMode s = .next (answered s f rest .malformed []))
    ∧ (f.value 0 ≤ 2 → ¬ badTrain → ch.state ≠ .opened →
        exec .echoMode s = .next (answered s f rest .wrongState []))
    ∧ (f.value 0 = 0 → ch.state = .opened → exec .echoMode s
        = .next (answered (after .hold 0 ch.echo.thenMode) f rest .ok [0, 0, echoModeWord ch.echo.thenMode]))
    ∧ (f.value 0 = 2 → ch.state = .opened → exec .echoMode s
        = .next (answered (after .track 0 ch.echo.thenMode) f rest .ok [2, 0, echoModeWord ch.echo.thenMode]))
    ∧ (f.value 0 = 1 → ¬ badTrain → ch.state = .opened →
        (f.flag 1 1 = true → f.value 3 = 0 → exec .echoMode s
          = .next (answered (after .train count .hold) f rest .ok [1, BitVec.ofNat 16 count, 0]))
        ∧ (f.flag 1 1 = false ∨ f.value 3 = 2 → exec .echoMode s
          = .next (answered (after .train count .track) f rest .ok [1, BitVec.ofNat 16 count, 2])))

/-- ECHO_EXTEND (R38, R98; the order of the checks is log entry 13): WRONG_STATE unless OPEN; LATE with the mode outside
TRAIN; MALFORMED for a count of 0; ALREADY while an extension is pending; otherwise the extension is set, and the reply
carries the train count and the extension. Nothing else changes. -/
def Obligations.EchoExtendSets : Prop :=
  ∀ (s : State) (f : Frame) (rest : List Frame) (c : ChanId), Ready s f rest → f.kind = 0x14 → f.channel = chanByte c →
    f.payload.length = 2 →
    let ch := s.ch c
    (ch.state ≠ .opened → exec .echoExtend s = .next (answered s f rest .wrongState []))
    ∧ (ch.state = .opened → ch.echo.mode = .hold → exec .echoExtend s = .next (answered s f rest .late [0]))
    ∧ (ch.state = .opened → ch.echo.mode = .track → exec .echoExtend s = .next (answered s f rest .late [2]))
    ∧ (ch.state = .opened → ch.echo.mode = .train →
        (f.value 0 = 0 → exec .echoExtend s = .next (answered s f rest .malformed []))
        ∧ (1 ≤ f.value 0 → ch.echo.extension ≠ none → exec .echoExtend s = .next (answered s f rest .already []))
        ∧ (1 ≤ f.value 0 → ch.echo.extension = none → exec .echoExtend s
            = .next (answered (s.setCh c { ch with echo := { ch.echo with extension := some (f.value 0) } }) f rest .ok
                [BitVec.ofNat 16 ch.echo.trainCount, f.word 0])))

/-- SET_DELAY (R110): refused WRONG_STATE unless OPEN or HALTED; D becomes the value given, or max_delay with ADJUSTED when
it exceeds it; ZERO_FAR zeroes the far taps; everything else is kept and the reply carries D. -/
def Obligations.SetDelayClamps : Prop :=
  ∀ (s : State) (f : Frame) (rest : List Frame) (c : ChanId), Ready s f rest → f.kind = 0x15 → f.channel = chanByte c →
    f.payload.length = 4 →
    let ch := s.ch c
    let after (d : Nat) : State := s.setCh c { ch with echo :=
      { ch.echo with delay := d, far := if f.flag 1 0 then List.replicate ch.echo.far.length 0 else ch.echo.far } }
    (ch.state = .free ∨ ch.state = .draining → exec .setDelay s = .next (answered s f rest .wrongState []))
    ∧ (ch.state = .opened ∨ ch.state = .halted → f.value 0 ≤ ch.params.maxDelay →
        exec .setDelay s = .next (answered (after (f.value 0)) f rest .ok [f.word 0]))
    ∧ (ch.state = .opened ∨ ch.state = .halted → ch.params.maxDelay < f.value 0 →
        exec .setDelay s
          = .next (answered (after ch.params.maxDelay) f rest .adjusted [BitVec.ofNat 16 ch.params.maxDelay]))

/-- EQ_MODE (R38, R123, R124): MALFORMED for a mode above 3, then WRONG_STATE unless OPEN; the mode is set, and BYPASS
empties the pending-reference list with every entry counted missed; the reply carries the mode and the number expired.
Nothing else changes. -/
def Obligations.EqModeSets : Prop :=
  ∀ (s : State) (f : Frame) (rest : List Frame) (c : ChanId), Ready s f rest → f.kind = 0x16 → f.channel = chanByte c →
    f.payload.length = 2 →
    let ch := s.ch c
    (4 ≤ f.value 0 → exec .eqMode s = .next (answered s f rest .malformed []))
    ∧ (f.value 0 ≤ 3 → ch.state ≠ .opened → exec .eqMode s = .next (answered s f rest .wrongState []))
    ∧ (ch.state = .opened → f.value 0 = 0 → exec .eqMode s = .next (answered
        (s.setCh c { ch with
          eq := { ch.eq with mode := .bypass, pendingRefs := [] }
          counters := { ch.counters with
            refsMissed := ch.counters.refsMissed + BitVec.ofNat 32 ch.eq.pendingRefs.length } })
        f rest .ok [0, BitVec.ofNat 16 ch.eq.pendingRefs.length]))
    ∧ ∀ (mode : EqMode) (v : Word), (mode, v) ∈ [(EqMode.hold, (1 : Word)), (.train, 2), (.track, 3)] →
        ch.state = .opened → f.word 0 = v →
        exec .eqMode s = .next (answered (s.setCh c { ch with eq := { ch.eq with mode := mode } }) f rest .ok [v, 0])

/-- TAPS_READ (R112, R113, R114, R115, R141): the checks in their order; the reply carries the set, the start and count used
and the taps, then D and the echo mode, or the checkpoint's D, or the eq mode, next seq and the pending entries in brief;
the set's cursor moves to the end of the read, wrapping, and nothing else changes. -/
def Obligations.TapsReadReports : Prop :=
  ∀ (s : State) (f : Frame) (rest : List Frame) (c : ChanId), Ready s f rest → f.kind = 0x17 → f.channel = chanByte c →
    f.payload.length = 6 →
    let ch := s.ch c
    (5 ≤ f.value 0 ∨ f.value 2 = 0 ∨ 129 ≤ f.value 2 → exec .tapsRead s = .next (answered s f rest .malformed []))
    ∧ ∀ set : TapSet, f.word 0 = tapSetWord set → 1 ≤ f.value 2 → f.value 2 ≤ 128 →
        (ch.state = .free → exec .tapsRead s = .next (answered s f rest .wrongState []))
        ∧ (ch.state ≠ .free → tapsOf ch set = none → exec .tapsRead s = .next (answered s f rest .notFound []))
        ∧ ∀ taps : List Sample, ch.state ≠ .free → tapsOf ch set = some taps →
            let start := if f.word 1 = 0xFFFF then cursorOf ch set else f.value 1
            let used := min (f.value 2) (taps.length - start)
            let trailer : List Word := match set with
              | .near | .far => [BitVec.ofNat 16 ch.echo.delay, echoModeWord ch.echo.mode]
              | .ckNear | .ckFar => (ch.echo.checkpoint.map fun k => (BitVec.ofNat 16 k.delay : Word)).toList
              | .eq => [eqModeWord ch.eq.mode, ch.eq.nextSeq, BitVec.ofNat 16 ch.eq.pendingRefs.length]
                  ++ ch.eq.pendingRefs.flatMap fun e => [e.seq, if e.slip then 1 else 0]
            (taps.length ≤ start → exec .tapsRead s = .next (answered s f rest .malformed []))
            ∧ (start < taps.length →
                exec .tapsRead s = .next (answered (s.setCh c (setCursor ch set ((start + used) % taps.length))) f rest
                  (if taps.length < start + f.value 2 then .adjusted else .ok)
                  ([tapSetWord set, BitVec.ofNat 16 start, BitVec.ofNat 16 used] ++ (taps.drop start).take used
                    ++ trailer)))

/-- TAPS_WRITE (R112, R113, R116, R117, R140): MALFORMED for a set that is not NEAR, FAR or EQ; WRONG_STATE unless HALTED, or
OPEN with the echo mode HOLD for NEAR and FAR and the eq mode HOLD or BYPASS for EQ; MALFORMED for a start at or past the
end; otherwise the taps up to the set's end are written as given, the cursor moves, and nothing else changes. -/
def Obligations.TapsWriteStores : Prop :=
  ∀ (s : State) (f : Frame) (rest : List Frame) (c : ChanId), Ready s f rest → f.kind = 0x18 → f.channel = chanByte c →
    6 ≤ f.payload.length → f.payload.length ≤ 260 → f.payload.length % 2 = 0 →
    let ch := s.ch c
    let values : List Sample := (payloadWords f.payload).drop 2
    (3 ≤ f.value 0 → exec .tapsWrite s = .next (answered s f rest .malformed []))
    ∧ ∀ (set : TapSet) (taps : List Sample), set = .near ∨ set = .far ∨ set = .eq → f.word 0 = tapSetWord set →
        tapsOf ch set = some taps →
        let allowed := ch.state = .halted ∨ (ch.state = .opened ∧
          if set = .eq then ch.eq.mode = .hold ∨ ch.eq.mode = .bypass else ch.echo.mode = .hold)
        let start := if f.word 1 = 0xFFFF then cursorOf ch set else f.value 1
        let used := min values.length (taps.length - start)
        (¬ allowed → exec .tapsWrite s = .next (answered s f rest .wrongState []))
        ∧ (allowed → taps.length ≤ start → exec .tapsWrite s = .next (answered s f rest .malformed []))
        ∧ (allowed → start < taps.length →
            ∃ written : List Sample, written.length = taps.length
              ∧ (∀ j : Nat, j < taps.length → written[j]? =
                  if start ≤ j ∧ j < start + used then values[j - start]? else taps[j]?)
              ∧ exec .tapsWrite s
                  = .next (answered
                      (s.setCh c (setCursor (setTaps ch set written) set ((start + used) % taps.length))) f rest
                      (if taps.length < start + values.length then .adjusted else .ok)
                      [BitVec.ofNat 16 start, BitVec.ofNat 16 used]))

/-- CHECKPOINT and RESTORE (R107, R108): both are refused WRONG_STATE in FREE and DRAINING. CHECKPOINT in OPEN and HALTED
copies the near taps, the far taps and D into the record in any mode and answers D. RESTORE without a record is refused
NOT_FOUND; with one it copies it back, keeps it, sets the strikes to 0 and answers D. Everything else stands. -/
def Obligations.CheckpointAndRestore : Prop :=
  ∀ (s : State) (f : Frame) (rest : List Frame) (c : ChanId), Ready s f rest → f.channel = chanByte c → f.payload = [] →
    let ch := s.ch c
    let may := ch.state = .opened ∨ ch.state = .halted
    (f.kind = 0x19 →
      (¬ may → exec .checkpoint s = .next (answered s f rest .wrongState []))
      ∧ (may → exec .checkpoint s = .next (answered
          (s.setCh c { ch with echo :=
            { ch.echo with checkpoint := some ⟨ch.echo.near, ch.echo.far, ch.echo.delay⟩ } })
          f rest .ok [BitVec.ofNat 16 ch.echo.delay])))
    ∧ (f.kind = 0x1A →
      (¬ may → exec .restore s = .next (answered s f rest .wrongState []))
      ∧ (may → ch.echo.checkpoint = none → exec .restore s = .next (answered s f rest .notFound []))
      ∧ ∀ k : Checkpoint, may → ch.echo.checkpoint = some k →
          exec .restore s = .next (answered
            (s.setCh c { ch with echo :=
              { ch.echo with near := k.near, far := k.far, delay := k.delay, strikes := 0 } })
            f rest .ok [BitVec.ofNat 16 k.delay]))

/-! ### Surveys and quality -/

/-- SURVEY (R38, R144, R145, R146, R147): WRONG_STATE unless OPEN, ALREADY while a survey is queued or running. The lags are
clamped by the four steps of R144, ADJUSTED when that changes them. With a correlator idle the lowest takes it at once, a
probing one starting the probe from all ones; otherwise it joins the queue's tail. The reply says which. That the count of
the phase the granted survey is not in is 0 is the model's choice (log entry 26). -/
def Obligations.SurveyIsQueuedOrGranted : Prop :=
  ∀ (s : State) (f : Frame) (rest : List Frame) (c : ChanId), Ready s f rest → f.kind = 0x1B → f.channel = chanByte c →
    f.payload.length = 6 → SurveyUnits s → NoIdleCorrelator s →
    let ch := s.ch c
    let top := ch.params.maxDelay
    let lo := min (f.value 0) top
    let hi := max lo (min (f.value 1) top)
    let count := min ((hi - lo) / 4 + 1) 512
    let used := lo + 4 * (count - 1)
    let e : SurveyEntry := ⟨c, lo, used, count, f.flag 2 0, f.flag 2 1⟩
    let code : ResultCode := if lo = f.value 0 ∧ used = f.value 1 then .ok else .adjusted
    let lags : List Word := [BitVec.ofNat 16 lo, BitVec.ofNat 16 used, BitVec.ofNat 16 count]
    let waiting : State := { s with dsu := { s.dsu with queue := s.dsu.queue ++ [e] } }
    let unit : Correlator := ⟨e, if e.probe then .leadIn else .window, 0, 0, 0, List.replicate count 0⟩
    let granted (i : Fin 4) : State :=
      { s with dsu := { s.dsu with correlators := s.dsu.correlators.set i.val (some unit) } }
    (ch.state ≠ .opened → exec .survey s = .next (answered s f rest .wrongState []))
    ∧ (ch.state = .opened → ch.survey ≠ .noSurvey → exec .survey s = .next (answered s f rest .already []))
    ∧ (ch.state = .opened → ch.survey = .noSurvey → s.dsu.idleUnit = none →
        exec .survey s = .next (answered
          (waiting.setCh c { ch with survey := .queued })
          f rest code (lags ++ [1, BitVec.ofNat 16 s.dsu.queue.length])))
    ∧ ∀ i : Fin 4, ch.state = .opened → ch.survey = .noSurvey → s.dsu.idleUnit = some i →
        exec .survey s = .next (answered
          ((granted i).setCh c { ch with
            survey := .running
            tx := { ch.tx with probe := if e.probe then BitVec.allOnes 15 else ch.tx.probe } })
          f rest code (lags ++ [2, BitVec.ofNat 16 i.val]))

/-- SURVEY_CANCEL (R38, R146, R155, R159; the NOT_FOUND layout is log entry 16): WRONG_STATE in FREE; with no survey
NOT_FOUND with the last result, or zeros; a queued survey leaves the queue, a running one frees its correlator, which passes
to the oldest queued survey; the CANCELLED record becomes the last result, is raised in SURVEY_DONE and answered, and
surveys_done rises. A correlator passed on has 0 in the count of the phase it is not in (model's choice, log entry 26). -/
def Obligations.SurveyCancelEnds : Prop :=
  ∀ (s : State) (f : Frame) (rest : List Frame) (c : ChanId), Ready s f rest → f.kind = 0x1C → f.channel = chanByte c →
    f.payload = [] → SurveyUnits s → NoIdleCorrelator s →
    let ch := s.ch c
    let record := recordWithout .cancelled
    (ch.state = .free → exec .surveyCancel s = .next (answered s f rest .wrongState []))
    ∧ (ch.state ≠ .free → ch.survey = .noSurvey → exec .surveyCancel s = .next (answered s f rest .notFound
        (match ch.lastResult with | some r => 1 :: recordWords r | none => List.replicate 17 0)))
    ∧ (∀ e ∈ s.dsu.queue, e.channel = c →
        exec .surveyCancel s = .next (answered
          { surveyOver s c (record e 0) with dsu :=
              { s.dsu with queue := s.dsu.queue.filter fun q => decide (q.channel ≠ c) } }
          f rest .ok (recordWords (record e 0))))
    ∧ ∀ (i : Fin 4) (k : Correlator), s.dsu.unit i = some k → k.entry.channel = c →
        exec .surveyCancel s = .next (answered (passedOn (surveyOver s c (record k.entry k.restarts)) i) f rest .ok
          (recordWords (record k.entry k.restarts)))

/-- QUALITY (R11, R13, R164, R165): refused WRONG_STATE in FREE; otherwise nothing changes and the reply carries the channel
state, each attribute's measured flag, value and verdict, the thresholds, the armings, the estimators, the error count and
the slip turns. -/
def Obligations.QualityReports : Prop :=
  ∀ (s : State) (f : Frame) (rest : List Frame) (c : ChanId), Ready s f rest → f.kind = 0x1D → f.channel = chanByte c →
    f.payload = [] →
    let ch := s.ch c
    let q := ch.quality
    let figure (v : Option Nat) (low : Nat) : List Word := match v with
      | none => [0, 0, 2]
      | some n => [1, BitVec.ofNat 16 n, if low ≤ n then 0 else 1]
    let erle : Option Nat := if 16 ≤ q.pRx then some (min 45 (3 * (msb (q.pRx + 1) - msb (q.pRes + 1)))) else none
    let mse : Option Nat := if 64 ≤ q.errorCount then some (min 45 (3 * (15 - msb (q.pErr + 1)))) else none
    let state : Word := match ch.state with | .free => 0 | .opened => 1 | .draining => 2 | .halted => 3
    (ch.state = .free → exec .quality s = .next (answered s f rest .wrongState []))
    ∧ (ch.state ≠ .free → exec .quality s = .next (answered s f rest .ok
        (state :: figure erle ch.params.erleMin ++ figure mse ch.params.mseMin
          ++ [BitVec.ofNat 16 ch.params.erleMin, BitVec.ofNat 16 ch.params.mseMin, armingWord q.erleArm,
            armingWord q.mseArm, BitVec.ofNat 16 q.pRx, BitVec.ofNat 16 q.pRes, BitVec.ofNat 16 q.pErr,
            BitVec.ofNat 16 q.errorCount, BitVec.ofNat 16 q.slipTurns])))

/-! ### Every request -/

/-- The checks every request passes before its own rules (R38, R195, R209): a channel request whose channel field is above
39 is answered NO_CHANNEL whatever its payload; any other request of a known kind whose payload length its row does not
admit is answered MALFORMED. Neither changes anything (RESET among them, log entry 12). -/
def Obligations.FrameChecksComeFirst : Prop :=
  ∀ (s : State) (f : Frame) (rest : List Frame), Ready s f rest → requestRow f.kind ≠ .unknownKind →
    (isChannelKind f.kind = true → 40 ≤ f.channel.toNat →
      exec (requestRow f.kind) s = .next (answered s f rest .noChannel []))
    ∧ (isChannelKind f.kind = false ∨ f.channel.toNat < 40 → lengthAdmitted f.kind f.payload.length = false →
      exec (requestRow f.kind) s = .next (answered s f rest .malformed []))

/-- Each request taken gives exactly one reply, with its kind plus 0x80, its channel field and its tag, at the tail of the
reply queue, and a refused one changes nothing (R195, R196). RESET, which empties the reply queue, is said in
ResetReturnsEveryBlock. While 16 replies wait no request is taken (R195, R197; log entry 19). -/
def Obligations.OneReplyAndRefusalsChangeNothing : Prop :=
  ∀ (s : State) (f : Frame) (rest : List Frame), s.nrstLow = false → s.link.requests = f :: rest →
    (16 ≤ s.link.replies.length → exec (requestRow f.kind) s = .next s)
    ∧ (s.link.replies.length < 16 → f.kind ≠ 0x02 →
        ∃ (t : State) (r : Reply), exec (requestRow f.kind) s = .next t
          ∧ t.link.requests = rest ∧ t.link.replies = s.link.replies ++ [r] ∧ t.link.attn = true
          ∧ r.kind = (if requestRow f.kind = .unknownKind then 0x80 else f.kind + 0x80)
          ∧ r.channel = f.channel ∧ r.tag = f.tag
          ∧ (Refuses r.code → t = { s with link :=
              { s.link with requests := rest, replies := s.link.replies ++ [r], attn := true } }))

/-! ### Invariants that every step keeps -/

/-- Taps held and free always total 7680, and every page is in exactly one place, the free list or one channel's list (R58,
R59, R60, R67). -/
def Obligations.PoolsAreKept : Prop :=
  ∀ s t : State, step s = .next t → (TapPool s → TapPool t) ∧ (PagePlaces s → PagePlaces t)

/-- A channel holds a slot exactly when it is not FREE, and that slot's map entry and no other names it (R30). -/
def Obligations.SlotMapIsKept : Prop := ∀ s t : State, step s = .next t → SlotMap s → SlotMap t

/-- The page pool and every input ring keep their canonical form (the model's, log entry 2). -/
def Obligations.MemoryStaysCanonical : Prop := ∀ s t : State, step s = .next t → MemoryCanonical s → MemoryCanonical t

/-- At most one notice of each kind for each channel, occurrences in 1..255, none for a FREE channel (R198). A notice raised
while none of its kind and channel waits joins the tail with occurrences 1; otherwise the waiting one keeps its place, takes
the new content and counts one more occurrence, up to 255; every other entry stands. -/
def Obligations.NoticeListIsKept : Prop :=
  (∀ s t : State, step s = .next t → NoticeList s → NoticeList t)
  ∧ ∀ (channel : Byte) (body : NoticeBody),
      let same (n : Notice) : Prop := n.channel = channel ∧ noticeKind n.body = noticeKind body
      (∀ l : List Notice, (∀ n ∈ l, ¬ same n) → placeNotice channel body l = l ++ [⟨channel, 1, body⟩])
      ∧ ∀ (before after : List Notice) (n : Notice), (∀ m ∈ before, ¬ same m) → same n →
          placeNotice channel body (before ++ n :: after)
            = before ++ ⟨channel, min (n.occurrences + 1) 255, body⟩ :: after

/-- At most 16 requests, 16 replies, 64 EQ_BLOCKs, 7 bits of an incomplete byte and 320 samples a transmit queue (R74, R188,
R194, R197, R201); ATTN asserted exactly while something is to be sent (R189); the receiver holds the bytes of an
unfinished frame or none (R191). -/
def Obligations.LinkStateIsKept : Prop :=
  ∀ s t : State, step s = .next t →
    (QueueBounds s → QueueBounds t) ∧ (AttnFollows s → AttnFollows t) ∧ (ReceiverState s.link → ReceiverState t.link)

/-- Every non-FREE channel's echo state keeps its lengths and ranges, its span covers its deepest lag, and its cursors lie in
their sets (R66, R88, R106, R113). -/
def Obligations.EchoStatesAreKept : Prop := ∀ s t : State, step s = .next t → EchoStates s → EchoStates t

/-- The pending-reference lists are as R131 says, given profiles in range, and the profile table, the channels' copies and
the quality state stay within their ranges (R10, R12, R131, R163, R177, R185). -/
def Obligations.ListsAndRangesAreKept : Prop :=
  ∀ s t : State, step s = .next t →
    (ProfileRanges s → ProfileRanges t) ∧ (ProfileRanges s → PendingLists s → PendingLists t)
      ∧ (QualityRanges s → QualityRanges t)

/-- Surveys are queued and running as R143 and R146 say, each once and only on OPEN channels, with lags and counts in range,
and no correlator is idle while a survey waits (R143, R144, R146, R148, R153). -/
def Obligations.SurveysAreKept : Prop :=
  ∀ s t : State, step s = .next t → SurveyUnits s → NoIdleCorrelator s → SurveyUnits t ∧ NoIdleCorrelator t

/-! ### Frames and arithmetic -/

/-- A frame of the part's own making is read back whole by the part's receiver, with what follows it left over, and words
survive the payload's bytes (R190, R191, R208). From a start byte on, fewer than six bytes are a frame in HEADER; a length above
1024 is bad; fewer than length + 8 bytes are a frame in BODY; a check that differs is bad; and an accepted frame's bytes are its
own, with a payload of at most 1024 bytes (R191, R192). A frame's bytes are start, kind, channel, tag, length, payload and the check of
R190, and a word goes low byte first. A reply carries its result code and items, a notice its occurrences and content, an
EQ_BLOCK its seq, flags, modes and outputs, with the kinds and codes of R208 and R209; the model's readings: no channel number
in a notice's content (log entry 14), a presence word for each figure of a survey record (log entry 15). Bits go most
significant first: bit j of slot s is the receive data at bit count 16s + j, and the transmit data there when the slot is
driven, beyond the frame nothing (R18, R21); bit j of a byte is the j-th clocked (R188). -/
def Obligations.FramesRoundTrip : Prop :=
  let low (w : Word) : Byte := w.setWidth 8
  let high (w : Word) : Byte := (w >>> 8).setWidth 8
  let num (n : Nat) : Word := BitVec.ofNat 16 n
  let yes (b : Bool) : Word := if b then 1 else 0
  let item (o : Option Nat) : List Word := match o with | none => [0, 0] | some n => [1, num n]
  let result (code : ResultCode) : Word := match code with
    | .ok => 0 | .adjusted => 1 | .malformed => 2 | .noChannel => 3 | .wrongState => 4 | .slotBusy => 5 | .noTaps => 6
    | .noPages => 7 | .badProfile => 8 | .locked => 9 | .late => 10 | .already => 11 | .notFound => 12 | .unknownKind => 13
  let echo (m : EchoMode) : Word := match m with | .hold => 0 | .train => 1 | .track => 2
  let eq (m : EqMode) : Word := match m with | .bypass => 0 | .hold => 1 | .train => 2 | .track => 3
  let record (r : SurveyRecord) : List Word :=
    (match r.status with | .found => 0 | .weak => 1 | .slipped => 2 | .cancelled => 3)
      :: [num r.lo, num r.hi, num r.lagCount, yes r.probe, num r.restarts] ++ item (r.figures.map (·.peakLag))
      ++ item (r.figures.map (·.peakLevel)) ++ item (r.figures.map (·.secondLevel))
      ++ item (r.figures.map (·.confidence)) ++ item r.appliedDelay
  (∀ (f : Frame) (rest : List Byte), f.payload.length ≤ 1024 → parseFrame (frameBytes f ++ rest) = .complete f rest)
    ∧ (∀ bytes : List Byte, bytes.length < 5 → parseFrame (0xC3 :: bytes) = .incomplete .header)
    ∧ (∀ (kind channel tag l0 l1 : Byte) (body : List Byte),
        let len := l0.toNat + 256 * l1.toNat
        let check := checkOf ([kind, channel, tag, l0, l1] ++ body.take len)
        let bytes := 0xC3 :: kind :: channel :: tag :: l0 :: l1 :: body
        (1024 < len → parseFrame bytes = .bad)
        ∧ (len ≤ 1024 → body.length < len + 2 → parseFrame bytes = .incomplete .body)
        ∧ (len ≤ 1024 → len + 2 ≤ body.length → (body.drop len).take 2 ≠ [low check, high check] →
            parseFrame bytes = .bad)
        ∧ ∀ (f : Frame) (rest : List Byte), parseFrame bytes = .complete f rest →
            bytes = frameBytes f ++ rest ∧ f.payload.length ≤ 1024)
    ∧ (∀ words : List Word, payloadWords (payloadOf words) = words
        ∧ payloadOf words = words.flatMap fun w => [low w, high w])
    ∧ (∀ f : Frame,
        let len := num f.payload.length
        let covered := [f.kind, f.channel, f.tag, low len, high len] ++ f.payload
        frameBytes f = 0xC3 :: covered ++ [low (checkOf covered), high (checkOf covered)])
    ∧ (∀ bytes : List Byte, checkOf bytes = (bytes.flatMap byteBits).foldl
        (fun (rem : Word) b => if rem.getLsbD 15 ^^ b then rem <<< 1 ^^^ 0x1021 else rem <<< 1) 0xFFFF)
    ∧ (∀ r : Reply, replyFrame r = ⟨r.kind, r.channel, r.tag, payloadOf (result r.code :: r.items)⟩)
    ∧ (∀ b : EqBlock, eqBlockFrame b = ⟨0x30, chanByte b.channel, 0, payloadOf
        ([b.seq, yes b.flags.slip + 2 * yes b.flags.starved + 4 * yes b.flags.probe + 8 * yes b.flags.echoAdapt,
          echo b.echoMode, eq b.eqMode] ++ b.outputs)⟩)
    ∧ (∀ (c : Byte) (k : Nat),
        let carries (body : NoticeBody) (kind : Byte) (words : List Word) : Prop :=
          noticeKind body = kind ∧ noticeFrame ⟨c, k, body⟩ = ⟨kind, c, 0, payloadOf (num k :: words)⟩
        (∀ n, carries (.txLow n) 0x40 [num n] ∧ carries (.txHigh n) 0x41 [num n])
        ∧ (∀ m taken, carries (.trainDone m taken) 0x42 [echo m, yes taken])
        ∧ (∀ d, carries (.diverged .checkpoint d) 0x43 [0, num d] ∧ carries (.diverged .zero d) 0x43 [1, num d])
        ∧ (∀ r, carries (.surveyDone r) 0x44 (record r))
        ∧ (∀ n, carries (.drained .empty n) 0x45 [0, num n] ∧ carries (.drained .timeout n) 0x45 [1, num n]
            ∧ carries (.drained .lineLost n) 0x45 [2, num n])
        ∧ (∀ e m erle mse, carries (.quality e m erle mse) 0x46 ((yes e + 2 * yes m) :: item erle ++ item mse))
        ∧ (∀ n : Count, carries (.highway .sync n) 0x50 [0, n.setWidth 16, (n >>> 16).setWidth 16]
            ∧ carries (.highway .lost n) 0x50 [1, n.setWidth 16, (n >>> 16).setWidth 16]
            ∧ carries (.highway .slip n) 0x50 [2, n.setWidth 16, (n >>> 16).setWidth 16])
        ∧ (∀ kind tag : Byte, carries (.link .badFrame kind tag) 0x51 [0, kind.setWidth 16, tag.setWidth 16]
            ∧ carries (.link .requestDropped kind tag) 0x51 [1, kind.setWidth 16, tag.setWidth 16])
        ∧ carries .started 0x52 [0x0428, 1])
    ∧ (∀ (hrd : BitVec 1024) (sl : SlotId) (j : Nat), j < 16 →
        (slotSample hrd sl).getMsbD j = hrd.getMsbD (16 * sl.val + j))
    ∧ (∀ (h : Highway) (sl : SlotId) (j : Nat), j < 16 → h.bitCount = 16 * sl.val + j →
        h.htd = h.drive[sl.val].map fun x => x.getMsbD j)
    ∧ (∀ h : Highway, 1024 ≤ h.bitCount → h.htd = none)
    ∧ ∀ b : Byte, byteOfBits (byteBits b) = b ∧ (byteBits b).length = 8
        ∧ ∀ j : Nat, j < 8 → (byteBits b)[j]? = some (b.getMsbD j)

/-- The arithmetic of section 1. Saturation (R3); the echo estimate (R5); each tap's update (R7, R9); the equalizer output
(R8); the update of one reference sample, with its saturated error, P_err and error count to 64 (R9, R12, R137); the window
products (R14); the survey figures: the lag of the largest magnitude, the smallest on a tie, the levels at the peak and among
the lags more than 8 away, and the clamped confidence (R15). A power estimator steps by the floor of R10, stays in 0..32767,
falls by at least 1 towards a lower square and never passes a higher one; the probe's new bit is bit 14 XOR bit 13 and enters
at bit 0 of the shifted state, it never reaches all zeros from a nonzero state, no two states step to the same one, and it
sends +8192 or -8192 (R17); ERLE and MSE are as R11 and R13 form them, in 0..45 when measured. -/
def Obligations.EstimatorsAndProbe : Prop :=
  (∀ v : Int, (saturate v).toInt = max (-32768) (min 32767 v))
  ∧ (∀ (near far : List Sample) (delay : Nat) (x : Nat → Sample), echoEstimate near far delay x =
      ((∑ k ∈ Finset.range near.length, (near.getD k 0).toInt * (x k).toInt)
        + (∑ k ∈ Finset.range far.length, (far.getD k 0).toInt * (x (delay + k)).toInt) + 2 ^ 14) / 2 ^ 15)
  ∧ (∀ (e : Sample) (q : Nat) (x : Nat → Sample) (d : Nat) (taps : List Sample),
      (adaptFrom e q x d taps).length = taps.length
      ∧ ∀ (k : Nat) (tap : Sample), taps[k]? = some tap → (adaptFrom e q x d taps)[k]?
          = some (saturate (tap.toInt + (e.toInt * (x (d + k)).toInt + 2 ^ q) / 2 ^ (q + 1))))
  ∧ (∀ (taps : List Sample) (u : Nat → Sample), equalize taps u =
      saturate (((∑ k ∈ Finset.range taps.length, (taps.getD k 0).toInt * (u k).toInt) + 2 ^ 12) / 2 ^ 13))
  ∧ (∀ (q : Nat) (ch : Channel) (d y : Sample) (p : Nat) (ds ys : List Sample) (ps : List Nat),
      let e := saturate (d.toInt - y.toInt)
      applyErrors q ch (d :: ds) (y :: ys) (p :: ps) = applyErrors q { ch with
        eq := { ch.eq with taps := adaptFrom e q (inputRead ch.eq.ring p) 0 ch.eq.taps }
        quality := { ch.quality with
          pErr := powerStep ch.quality.pErr e, errorCount := min (ch.quality.errorCount + 1) 64 } } ds ys ps)
  ∧ (∀ (x : Nat → Sample) (r : Sample) (lo : Nat) (sums : List Int), (addProducts x r lo sums).length = sums.length
      ∧ ∀ (k : Nat) (sum : Int), sums[k]? = some sum →
          (addProducts x r lo sums)[k]? = some (sum + (x (lo + 4 * k)).toInt * r.toInt))
  ∧ (∀ (p : Nat) (v : Sample), p ≤ 32767 →
    let sq := min (v.toInt * v.toInt / 32768) 32767
    (powerStep p v : Int) = p + (sq - p) / 128
      ∧ powerStep p v ≤ 32767 ∧ (sq < p → powerStep p v < p) ∧ ((p : Int) ≤ sq → p ≤ powerStep p v ∧ (powerStep p v : Int) ≤ sq))
  ∧ (∀ n : Nat, 1 ≤ n → 2 ^ msb n ≤ n ∧ n < 2 ^ (msb n + 1))
  ∧ (∀ (lo : Nat) (sums : List Int), sums ≠ [] →
      let f := surveyFigures lo sums
      let size (k : Nat) : Nat := (sums.getD k 0).natAbs
      ∃ peak second : Nat, peak < sums.length ∧ f.peakLag = lo + 4 * peak
        ∧ (∀ k : Nat, k < sums.length → size k ≤ size peak) ∧ (∀ k : Nat, k < peak → size k < size peak)
        ∧ f.peakLevel = min (size peak / 2 ^ 25) 32767
        ∧ (∀ k : Nat, k < sums.length → 4 * k + 8 < 4 * peak ∨ 4 * peak + 8 < 4 * k → size k ≤ second)
        ∧ (second = 0 ∨ ∃ k : Nat, k < sums.length ∧ (4 * k + 8 < 4 * peak ∨ 4 * peak + 8 < 4 * k) ∧ second = size k)
        ∧ f.secondLevel = min (second / 2 ^ 25) 32767
        ∧ (f.confidence : Int) = max 0 (min 45 (3 * ((msb (f.peakLevel + 1) : Int) - msb (f.secondLevel + 1)))))
  ∧ (∀ st : BitVec 15,
      let bit := st.getLsbD 14 ^^ st.getLsbD 13
      (probeStep st).1 = bit
        ∧ ∀ k : Nat, k < 15 → (probeStep st).2.getLsbD k = if k = 0 then bit else st.getLsbD (k - 1))
  ∧ (∀ st : BitVec 15, st ≠ 0 → (probeStep st).2 ≠ 0)
  ∧ (∀ a b : BitVec 15, (probeStep a).2 = (probeStep b).2 → a = b)
  ∧ (∀ b : Bool, (probeSample b).toInt = if b then 8192 else -8192)
  ∧ (∀ pRx pRes n : Nat, erleValue pRx pRes = some n → 16 ≤ pRx ∧ n ≤ 45)
  ∧ (∀ pRx pRes n : Nat, erleValue pRx pRes = some n
      ↔ 16 ≤ pRx ∧ (n : Int) = max 0 (min 45 (3 * ((msb (pRx + 1) : Int) - msb (pRes + 1)))))
  ∧ (∀ pErr count n : Nat, mseValue pErr count = some n
      ↔ 64 ≤ count ∧ (n : Int) = max 0 (min 45 (3 * (15 - (msb (pErr + 1) : Int)))))
  ∧ ∀ pErr count n : Nat, mseValue pErr count = some n → 64 ≤ count ∧ n ≤ 45
end

