-- ==== Sys2Proof/Laws/Memory.lean ====
section
/-! SUPPORT. The sparse sample stores: every operation keeps the canonical form, a read after a write gives the value
written, and a write or a clearing leaves every other address alone. -/

namespace Sys2Proof.Laws
open Sys2Proof.Machine

theorem memWfFrom_mono {lo hi : Nat} {m : SampleMem} (h : memWfFrom hi m = true) (hl : lo ≤ hi) :
    memWfFrom lo m = true := by
  cases m with
  | nil => rfl
  | cons cell m =>
    simp only [memWfFrom, Bool.and_eq_true, decide_eq_true_eq] at *
    exact ⟨⟨by omega, h.1.2⟩, h.2⟩

/-- A write keeps the canonical form from a least address on. -/
theorem memWfFrom_write {lo a : Nat} {m : SampleMem} (v : Sample) (h : memWfFrom lo m = true) (ha : lo ≤ a) :
    memWfFrom lo (memWrite m a v) = true := by
  induction m generalizing lo with
  | nil =>
    unfold memWrite
    split <;> simp_all [memWfFrom]
  | cons cell m ih =>
    simp only [memWfFrom, Bool.and_eq_true, decide_eq_true_eq] at h
    obtain ⟨⟨h1, h2⟩, h3⟩ := h
    unfold memWrite
    split
    · rename_i hlt
      split
      · simp only [memWfFrom, Bool.and_eq_true, decide_eq_true_eq]
        exact ⟨⟨h1, h2⟩, h3⟩
      · rename_i hv
        simp only [memWfFrom, Bool.and_eq_true, decide_eq_true_eq]
        exact ⟨⟨ha, bne_iff_ne.2 hv⟩, ⟨hlt, h2⟩, h3⟩
    · rename_i hlt
      split
      · rename_i he
        split
        · exact memWfFrom_mono h3 (by omega)
        · rename_i hv
          simp only [memWfFrom, Bool.and_eq_true, decide_eq_true_eq]
          exact ⟨⟨ha, bne_iff_ne.2 hv⟩, he ▸ h3⟩
      · rename_i hne
        simp only [memWfFrom, Bool.and_eq_true, decide_eq_true_eq]
        exact ⟨⟨h1, h2⟩, ih h3 (by omega)⟩

theorem memWf_write {m : SampleMem} (a : Nat) (v : Sample) (h : memWf m = true) : memWf (memWrite m a v) = true :=
  memWfFrom_write v h (Nat.zero_le a)

theorem memWfFrom_filter {lo : Nat} {m : SampleMem} (p : Nat × Sample → Bool) (h : memWfFrom lo m = true) :
    memWfFrom lo (m.filter p) = true := by
  induction m generalizing lo with
  | nil => rfl
  | cons cell m ih =>
    simp only [memWfFrom, Bool.and_eq_true, decide_eq_true_eq] at h
    obtain ⟨⟨h1, h2⟩, h3⟩ := h
    rw [List.filter_cons]
    split
    · simp only [memWfFrom, Bool.and_eq_true, decide_eq_true_eq]
      exact ⟨⟨h1, h2⟩, ih h3⟩
    · exact memWfFrom_mono (ih h3) (by omega)

theorem memWf_clearPages {m : SampleMem} (pages : List Nat) (h : memWf m = true) :
    memWf (memClearPages m pages) = true := by
  unfold memClearPages
  induction pages generalizing m with
  | nil => exact h
  | cons p ps ih => exact ih (memWfFrom_filter _ h)

theorem memWf_nil : memWf [] = true := rfl

/-- Below the least address of a canonical store nothing is listed. -/
theorem memRead_below {lo a : Nat} {m : SampleMem} (h : memWfFrom lo m = true) (ha : a < lo) : memRead m a = 0 := by
  induction m generalizing lo with
  | nil => rfl
  | cons cell m ih =>
    simp only [memWfFrom, Bool.and_eq_true, decide_eq_true_eq] at h
    obtain ⟨⟨h1, h2⟩, h3⟩ := h
    unfold memRead
    rw [if_neg (by omega)]
    exact ih h3 (by omega)

theorem memRead_write_from {lo : Nat} {m : SampleMem} (a b : Nat) (v : Sample) (h : memWfFrom lo m = true) :
    memRead (memWrite m a v) b = if b = a then v else memRead m b := by
  induction m generalizing lo with
  | nil =>
    unfold memWrite
    split
    · rename_i hv
      simp [memRead, hv]
    · unfold memRead
      by_cases hb : b = a
      · simp [hb]
      · simp [hb, Ne.symm hb, memRead]
  | cons cell m ih =>
    simp only [memWfFrom, Bool.and_eq_true, decide_eq_true_eq] at h
    obtain ⟨⟨h1, h2⟩, h3⟩ := h
    unfold memWrite
    split
    · rename_i hlt
      have hr : memRead (cell :: m) a = 0 := by
        unfold memRead
        rw [if_neg (by omega)]
        exact memRead_below h3 (by omega)
      split
      · rename_i hv
        split
        · rename_i hb
          rw [hb, hr, hv]
        · rfl
      · by_cases hb : b = a
        · subst hb
          simp [memRead]
        · rw [if_neg hb, memRead, if_neg (by simpa using Ne.symm hb)]
    · rename_i hlt
      split
      · rename_i he
        split
        · rename_i hv
          by_cases hb : b = a
          · subst hb
            rw [if_pos rfl, hv]
            exact memRead_below h3 (by omega)
          · rw [if_neg hb]
            conv_rhs => unfold memRead
            rw [if_neg (by omega)]
        · by_cases hb : b = a
          · subst hb
            simp [memRead]
          · simp [memRead, hb, Ne.symm hb, he]
      · rename_i hne
        unfold memRead
        by_cases hc : cell.1 = b
        · rw [if_pos hc, if_pos hc, if_neg (by omega)]
        · rw [if_neg hc, if_neg hc]
          exact ih h3

/-- A read after a write gives the value written, and every other address reads as before. -/
theorem memRead_write {m : SampleMem} (a b : Nat) (v : Sample) (h : memWf m = true) :
    memRead (memWrite m a v) b = if b = a then v else memRead m b := memRead_write_from a b v h

/-- A cleared page reads 0, and every other page reads as before (R62). -/
theorem memRead_clearPage (m : SampleMem) (page b : Nat) :
    memRead (memClearPage m page) b = if b / Config.pageSize = page then 0 else memRead m b := by
  unfold memClearPage
  induction m with
  | nil => simp [memRead]
  | cons cell m ih =>
    rw [List.filter_cons]
    by_cases hp : cell.1 / Config.pageSize = page
    · simp only [hp, bne_self_eq_false, Bool.false_eq_true, if_false, ih]
      split
      · rfl
      · rename_i hb
        rw [memRead, if_neg (by rintro rfl; exact hb hp)]
    · have hp' : (cell.1 / Config.pageSize != page) = true := by simpa using hp
      simp only [hp', if_true, memRead]
      by_cases hc : cell.1 = b
      · subst hc
        simp [hp]
      · simp only [hc, if_false]
        exact ih

theorem memRead_clearPages (m : SampleMem) (pages : List Nat) (b : Nat) :
    memRead (memClearPages m pages) b = if b / Config.pageSize ∈ pages then 0 else memRead m b := by
  unfold memClearPages
  induction pages generalizing m with
  | nil => simp
  | cons p ps ih =>
    rw [List.foldl_cons, ih, memRead_clearPage]
    simp only [List.mem_cons]
    split
    · rename_i h; simp [h]
    · rename_i h; simp [h]

end Sys2Proof.Laws
end

