-- ==== Sys2Proof/Laws/State.lean ====
section
/-! SUPPORT. The small lemmas of State's accessors and updates: what each update leaves as it was, one lemma per field, and
what a channel reads as after an update of a channel. -/

namespace Sys2Proof.Machine

/-! ### Reading a channel after an update of one -/

@[simp] theorem State.setCh_ch_same (s : State) (c : ChanId) (x : Channel) : (s.setCh c x).ch c = x := by
  simp [State.setCh, State.ch]

@[simp] theorem State.setCh_ch_ne (s : State) (c d : ChanId) (x : Channel) (h : d ≠ c) :
    (s.setCh c x).ch d = s.ch d := by
  have : c.val ≠ d.val := fun e => h (Fin.ext e.symm)
  simp [State.setCh, State.ch, Vector.getElem_set_ne, this]

@[simp] theorem State.modCh_ch_same (s : State) (c : ChanId) (f : Channel → Channel) :
    (s.modCh c f).ch c = f (s.ch c) := by simp [State.modCh]

@[simp] theorem State.modCh_ch_ne (s : State) (c d : ChanId) (f : Channel → Channel) (h : d ≠ c) :
    (s.modCh c f).ch d = s.ch d := by simp [State.modCh, h]

@[simp] theorem State.setCh_setCh (s : State) (c : ChanId) (x y : Channel) :
    (s.setCh c x).setCh c y = s.setCh c y := by
  simp [State.setCh]

@[simp] theorem State.setCh_ch_self (s : State) (c : ChanId) : s.setCh c (s.ch c) = s := by
  simp [State.setCh, State.ch]

@[simp] theorem State.modCh_modCh (s : State) (c : ChanId) (f g : Channel → Channel) :
    (s.modCh c f).modCh c g = s.modCh c fun ch => g (f ch) := by
  simp [State.modCh]

/-! ### What an update leaves as it was -/

@[simp] theorem State.setCh_highway (s : State) (c : ChanId) (x : Channel) : (s.setCh c x).highway = s.highway := rfl
@[simp] theorem State.setCh_pageMem (s : State) (c : ChanId) (x : Channel) : (s.setCh c x).pageMem = s.pageMem := rfl
@[simp] theorem State.setCh_freePages (s : State) (c : ChanId) (x : Channel) : (s.setCh c x).freePages = s.freePages := rfl
@[simp] theorem State.setCh_freeTaps (s : State) (c : ChanId) (x : Channel) : (s.setCh c x).freeTaps = s.freeTaps := rfl
@[simp] theorem State.setCh_dsu (s : State) (c : ChanId) (x : Channel) : (s.setCh c x).dsu = s.dsu := rfl
@[simp] theorem State.setCh_profiles (s : State) (c : ChanId) (x : Channel) : (s.setCh c x).profiles = s.profiles := rfl
@[simp] theorem State.setCh_lock (s : State) (c : ChanId) (x : Channel) : (s.setCh c x).lock = s.lock := rfl
@[simp] theorem State.setCh_device (s : State) (c : ChanId) (x : Channel) : (s.setCh c x).device = s.device := rfl
@[simp] theorem State.setCh_snapshot (s : State) (c : ChanId) (x : Channel) : (s.setCh c x).snapshot = s.snapshot := rfl
@[simp] theorem State.setCh_link (s : State) (c : ChanId) (x : Channel) : (s.setCh c x).link = s.link := rfl
@[simp] theorem State.setCh_nrstLow (s : State) (c : ChanId) (x : Channel) : (s.setCh c x).nrstLow = s.nrstLow := rfl
@[simp] theorem State.setCh_choice (s : State) (c : ChanId) (x : Channel) : (s.setCh c x).choice = s.choice := rfl
@[simp] theorem State.setCh_pending (s : State) (c : ChanId) (x : Channel) : (s.setCh c x).pending = s.pending := rfl

@[simp] theorem State.modCh_highway (s : State) (c : ChanId) (f : Channel → Channel) : (s.modCh c f).highway = s.highway := rfl
@[simp] theorem State.modCh_pageMem (s : State) (c : ChanId) (f : Channel → Channel) : (s.modCh c f).pageMem = s.pageMem := rfl
@[simp] theorem State.modCh_freePages (s : State) (c : ChanId) (f : Channel → Channel) : (s.modCh c f).freePages = s.freePages := rfl
@[simp] theorem State.modCh_freeTaps (s : State) (c : ChanId) (f : Channel → Channel) : (s.modCh c f).freeTaps = s.freeTaps := rfl
@[simp] theorem State.modCh_dsu (s : State) (c : ChanId) (f : Channel → Channel) : (s.modCh c f).dsu = s.dsu := rfl
@[simp] theorem State.modCh_profiles (s : State) (c : ChanId) (f : Channel → Channel) : (s.modCh c f).profiles = s.profiles := rfl
@[simp] theorem State.modCh_lock (s : State) (c : ChanId) (f : Channel → Channel) : (s.modCh c f).lock = s.lock := rfl
@[simp] theorem State.modCh_device (s : State) (c : ChanId) (f : Channel → Channel) : (s.modCh c f).device = s.device := rfl
@[simp] theorem State.modCh_snapshot (s : State) (c : ChanId) (f : Channel → Channel) : (s.modCh c f).snapshot = s.snapshot := rfl
@[simp] theorem State.modCh_link (s : State) (c : ChanId) (f : Channel → Channel) : (s.modCh c f).link = s.link := rfl
@[simp] theorem State.modCh_nrstLow (s : State) (c : ChanId) (f : Channel → Channel) : (s.modCh c f).nrstLow = s.nrstLow := rfl
@[simp] theorem State.modCh_choice (s : State) (c : ChanId) (f : Channel → Channel) : (s.modCh c f).choice = s.choice := rfl
@[simp] theorem State.modCh_pending (s : State) (c : ChanId) (f : Channel → Channel) : (s.modCh c f).pending = s.pending := rfl

@[simp] theorem State.setSlot_channels (s : State) (sl : SlotId) (e : Option ChanId) : (s.setSlot sl e).channels = s.channels := rfl
@[simp] theorem State.setSlot_pageMem (s : State) (sl : SlotId) (e : Option ChanId) : (s.setSlot sl e).pageMem = s.pageMem := rfl
@[simp] theorem State.setSlot_freePages (s : State) (sl : SlotId) (e : Option ChanId) : (s.setSlot sl e).freePages = s.freePages := rfl
@[simp] theorem State.setSlot_freeTaps (s : State) (sl : SlotId) (e : Option ChanId) : (s.setSlot sl e).freeTaps = s.freeTaps := rfl
@[simp] theorem State.setSlot_dsu (s : State) (sl : SlotId) (e : Option ChanId) : (s.setSlot sl e).dsu = s.dsu := rfl
@[simp] theorem State.setSlot_profiles (s : State) (sl : SlotId) (e : Option ChanId) : (s.setSlot sl e).profiles = s.profiles := rfl
@[simp] theorem State.setSlot_lock (s : State) (sl : SlotId) (e : Option ChanId) : (s.setSlot sl e).lock = s.lock := rfl
@[simp] theorem State.setSlot_device (s : State) (sl : SlotId) (e : Option ChanId) : (s.setSlot sl e).device = s.device := rfl
@[simp] theorem State.setSlot_snapshot (s : State) (sl : SlotId) (e : Option ChanId) : (s.setSlot sl e).snapshot = s.snapshot := rfl
@[simp] theorem State.setSlot_link (s : State) (sl : SlotId) (e : Option ChanId) : (s.setSlot sl e).link = s.link := rfl
@[simp] theorem State.setSlot_nrstLow (s : State) (sl : SlotId) (e : Option ChanId) : (s.setSlot sl e).nrstLow = s.nrstLow := rfl
@[simp] theorem State.setSlot_choice (s : State) (sl : SlotId) (e : Option ChanId) : (s.setSlot sl e).choice = s.choice := rfl
@[simp] theorem State.setSlot_pending (s : State) (sl : SlotId) (e : Option ChanId) : (s.setSlot sl e).pending = s.pending := rfl
@[simp] theorem State.setSlot_ch (s : State) (sl : SlotId) (e : Option ChanId) (d : ChanId) : (s.setSlot sl e).ch d = s.ch d := rfl

@[simp] theorem State.setDrive_channels (s : State) (sl : SlotId) (x : Sample) : (s.setDrive sl x).channels = s.channels := rfl
@[simp] theorem State.setDrive_pageMem (s : State) (sl : SlotId) (x : Sample) : (s.setDrive sl x).pageMem = s.pageMem := rfl
@[simp] theorem State.setDrive_freePages (s : State) (sl : SlotId) (x : Sample) : (s.setDrive sl x).freePages = s.freePages := rfl
@[simp] theorem State.setDrive_freeTaps (s : State) (sl : SlotId) (x : Sample) : (s.setDrive sl x).freeTaps = s.freeTaps := rfl
@[simp] theorem State.setDrive_dsu (s : State) (sl : SlotId) (x : Sample) : (s.setDrive sl x).dsu = s.dsu := rfl
@[simp] theorem State.setDrive_profiles (s : State) (sl : SlotId) (x : Sample) : (s.setDrive sl x).profiles = s.profiles := rfl
@[simp] theorem State.setDrive_lock (s : State) (sl : SlotId) (x : Sample) : (s.setDrive sl x).lock = s.lock := rfl
@[simp] theorem State.setDrive_device (s : State) (sl : SlotId) (x : Sample) : (s.setDrive sl x).device = s.device := rfl
@[simp] theorem State.setDrive_snapshot (s : State) (sl : SlotId) (x : Sample) : (s.setDrive sl x).snapshot = s.snapshot := rfl
@[simp] theorem State.setDrive_link (s : State) (sl : SlotId) (x : Sample) : (s.setDrive sl x).link = s.link := rfl
@[simp] theorem State.setDrive_nrstLow (s : State) (sl : SlotId) (x : Sample) : (s.setDrive sl x).nrstLow = s.nrstLow := rfl
@[simp] theorem State.setDrive_choice (s : State) (sl : SlotId) (x : Sample) : (s.setDrive sl x).choice = s.choice := rfl
@[simp] theorem State.setDrive_pending (s : State) (sl : SlotId) (x : Sample) : (s.setDrive sl x).pending = s.pending := rfl
@[simp] theorem State.setDrive_ch (s : State) (sl : SlotId) (x : Sample) (d : ChanId) : (s.setDrive sl x).ch d = s.ch d := rfl

@[simp] theorem State.modLink_highway (s : State) (f : Link → Link) : (s.modLink f).highway = s.highway := rfl
@[simp] theorem State.modLink_channels (s : State) (f : Link → Link) : (s.modLink f).channels = s.channels := rfl
@[simp] theorem State.modLink_pageMem (s : State) (f : Link → Link) : (s.modLink f).pageMem = s.pageMem := rfl
@[simp] theorem State.modLink_freePages (s : State) (f : Link → Link) : (s.modLink f).freePages = s.freePages := rfl
@[simp] theorem State.modLink_freeTaps (s : State) (f : Link → Link) : (s.modLink f).freeTaps = s.freeTaps := rfl
@[simp] theorem State.modLink_dsu (s : State) (f : Link → Link) : (s.modLink f).dsu = s.dsu := rfl
@[simp] theorem State.modLink_profiles (s : State) (f : Link → Link) : (s.modLink f).profiles = s.profiles := rfl
@[simp] theorem State.modLink_lock (s : State) (f : Link → Link) : (s.modLink f).lock = s.lock := rfl
@[simp] theorem State.modLink_device (s : State) (f : Link → Link) : (s.modLink f).device = s.device := rfl
@[simp] theorem State.modLink_snapshot (s : State) (f : Link → Link) : (s.modLink f).snapshot = s.snapshot := rfl
@[simp] theorem State.modLink_nrstLow (s : State) (f : Link → Link) : (s.modLink f).nrstLow = s.nrstLow := rfl
@[simp] theorem State.modLink_choice (s : State) (f : Link → Link) : (s.modLink f).choice = s.choice := rfl
@[simp] theorem State.modLink_pending (s : State) (f : Link → Link) : (s.modLink f).pending = s.pending := rfl
@[simp] theorem State.modLink_ch (s : State) (f : Link → Link) (d : ChanId) : (s.modLink f).ch d = s.ch d := rfl

@[simp] theorem State.raise_highway (s : State) (b : Byte) (n : NoticeBody) : (s.raise b n).highway = s.highway := rfl
@[simp] theorem State.raise_channels (s : State) (b : Byte) (n : NoticeBody) : (s.raise b n).channels = s.channels := rfl
@[simp] theorem State.raise_pageMem (s : State) (b : Byte) (n : NoticeBody) : (s.raise b n).pageMem = s.pageMem := rfl
@[simp] theorem State.raise_freePages (s : State) (b : Byte) (n : NoticeBody) : (s.raise b n).freePages = s.freePages := rfl
@[simp] theorem State.raise_freeTaps (s : State) (b : Byte) (n : NoticeBody) : (s.raise b n).freeTaps = s.freeTaps := rfl
@[simp] theorem State.raise_dsu (s : State) (b : Byte) (n : NoticeBody) : (s.raise b n).dsu = s.dsu := rfl
@[simp] theorem State.raise_profiles (s : State) (b : Byte) (n : NoticeBody) : (s.raise b n).profiles = s.profiles := rfl
@[simp] theorem State.raise_lock (s : State) (b : Byte) (n : NoticeBody) : (s.raise b n).lock = s.lock := rfl
@[simp] theorem State.raise_device (s : State) (b : Byte) (n : NoticeBody) : (s.raise b n).device = s.device := rfl
@[simp] theorem State.raise_snapshot (s : State) (b : Byte) (n : NoticeBody) : (s.raise b n).snapshot = s.snapshot := rfl
@[simp] theorem State.raise_nrstLow (s : State) (b : Byte) (n : NoticeBody) : (s.raise b n).nrstLow = s.nrstLow := rfl
@[simp] theorem State.raise_choice (s : State) (b : Byte) (n : NoticeBody) : (s.raise b n).choice = s.choice := rfl
@[simp] theorem State.raise_pending (s : State) (b : Byte) (n : NoticeBody) : (s.raise b n).pending = s.pending := rfl
@[simp] theorem State.raise_ch (s : State) (b : Byte) (n : NoticeBody) (d : ChanId) : (s.raise b n).ch d = s.ch d := rfl

@[simp] theorem State.raiseCh_highway (s : State) (c : ChanId) (n : NoticeBody) : (s.raiseCh c n).highway = s.highway := rfl
@[simp] theorem State.raiseCh_channels (s : State) (c : ChanId) (n : NoticeBody) : (s.raiseCh c n).channels = s.channels := rfl
@[simp] theorem State.raiseCh_pageMem (s : State) (c : ChanId) (n : NoticeBody) : (s.raiseCh c n).pageMem = s.pageMem := rfl
@[simp] theorem State.raiseCh_freePages (s : State) (c : ChanId) (n : NoticeBody) : (s.raiseCh c n).freePages = s.freePages := rfl
@[simp] theorem State.raiseCh_freeTaps (s : State) (c : ChanId) (n : NoticeBody) : (s.raiseCh c n).freeTaps = s.freeTaps := rfl
@[simp] theorem State.raiseCh_dsu (s : State) (c : ChanId) (n : NoticeBody) : (s.raiseCh c n).dsu = s.dsu := rfl
@[simp] theorem State.raiseCh_profiles (s : State) (c : ChanId) (n : NoticeBody) : (s.raiseCh c n).profiles = s.profiles := rfl
@[simp] theorem State.raiseCh_lock (s : State) (c : ChanId) (n : NoticeBody) : (s.raiseCh c n).lock = s.lock := rfl
@[simp] theorem State.raiseCh_device (s : State) (c : ChanId) (n : NoticeBody) : (s.raiseCh c n).device = s.device := rfl
@[simp] theorem State.raiseCh_snapshot (s : State) (c : ChanId) (n : NoticeBody) : (s.raiseCh c n).snapshot = s.snapshot := rfl
@[simp] theorem State.raiseCh_nrstLow (s : State) (c : ChanId) (n : NoticeBody) : (s.raiseCh c n).nrstLow = s.nrstLow := rfl
@[simp] theorem State.raiseCh_choice (s : State) (c : ChanId) (n : NoticeBody) : (s.raiseCh c n).choice = s.choice := rfl
@[simp] theorem State.raiseCh_pending (s : State) (c : ChanId) (n : NoticeBody) : (s.raiseCh c n).pending = s.pending := rfl
@[simp] theorem State.raiseCh_ch (s : State) (c : ChanId) (n : NoticeBody) (d : ChanId) : (s.raiseCh c n).ch d = s.ch d := rfl

@[simp] theorem State.raiseHighway_highway (s : State) (cause : HwCause) : (s.raiseHighway cause).highway = s.highway := rfl
@[simp] theorem State.raiseHighway_channels (s : State) (cause : HwCause) : (s.raiseHighway cause).channels = s.channels := rfl
@[simp] theorem State.raiseHighway_pageMem (s : State) (cause : HwCause) : (s.raiseHighway cause).pageMem = s.pageMem := rfl
@[simp] theorem State.raiseHighway_freePages (s : State) (cause : HwCause) : (s.raiseHighway cause).freePages = s.freePages := rfl
@[simp] theorem State.raiseHighway_freeTaps (s : State) (cause : HwCause) : (s.raiseHighway cause).freeTaps = s.freeTaps := rfl
@[simp] theorem State.raiseHighway_dsu (s : State) (cause : HwCause) : (s.raiseHighway cause).dsu = s.dsu := rfl
@[simp] theorem State.raiseHighway_profiles (s : State) (cause : HwCause) : (s.raiseHighway cause).profiles = s.profiles := rfl
@[simp] theorem State.raiseHighway_lock (s : State) (cause : HwCause) : (s.raiseHighway cause).lock = s.lock := rfl
@[simp] theorem State.raiseHighway_device (s : State) (cause : HwCause) : (s.raiseHighway cause).device = s.device := rfl
@[simp] theorem State.raiseHighway_snapshot (s : State) (cause : HwCause) : (s.raiseHighway cause).snapshot = s.snapshot := rfl
@[simp] theorem State.raiseHighway_nrstLow (s : State) (cause : HwCause) : (s.raiseHighway cause).nrstLow = s.nrstLow := rfl
@[simp] theorem State.raiseHighway_choice (s : State) (cause : HwCause) : (s.raiseHighway cause).choice = s.choice := rfl
@[simp] theorem State.raiseHighway_pending (s : State) (cause : HwCause) : (s.raiseHighway cause).pending = s.pending := rfl
@[simp] theorem State.raiseHighway_ch (s : State) (cause : HwCause) (d : ChanId) : (s.raiseHighway cause).ch d = s.ch d := rfl

@[simp] theorem State.settle_highway (s : State) : (s.settle).highway = s.highway := rfl
@[simp] theorem State.settle_channels (s : State) : (s.settle).channels = s.channels := rfl
@[simp] theorem State.settle_pageMem (s : State) : (s.settle).pageMem = s.pageMem := rfl
@[simp] theorem State.settle_freePages (s : State) : (s.settle).freePages = s.freePages := rfl
@[simp] theorem State.settle_freeTaps (s : State) : (s.settle).freeTaps = s.freeTaps := rfl
@[simp] theorem State.settle_dsu (s : State) : (s.settle).dsu = s.dsu := rfl
@[simp] theorem State.settle_profiles (s : State) : (s.settle).profiles = s.profiles := rfl
@[simp] theorem State.settle_lock (s : State) : (s.settle).lock = s.lock := rfl
@[simp] theorem State.settle_device (s : State) : (s.settle).device = s.device := rfl
@[simp] theorem State.settle_snapshot (s : State) : (s.settle).snapshot = s.snapshot := rfl
@[simp] theorem State.settle_nrstLow (s : State) : (s.settle).nrstLow = s.nrstLow := rfl
@[simp] theorem State.settle_choice (s : State) : (s.settle).choice = s.choice := rfl
@[simp] theorem State.settle_pending (s : State) : (s.settle).pending = s.pending := rfl
@[simp] theorem State.settle_ch (s : State) (d : ChanId) : (s.settle).ch d = s.ch d := rfl

@[simp] theorem State.count_highway (s : State) (c : ChanId) (f : ChanCounters → ChanCounters) : (s.count c f).highway = s.highway := rfl
@[simp] theorem State.count_pageMem (s : State) (c : ChanId) (f : ChanCounters → ChanCounters) : (s.count c f).pageMem = s.pageMem := rfl
@[simp] theorem State.count_freePages (s : State) (c : ChanId) (f : ChanCounters → ChanCounters) : (s.count c f).freePages = s.freePages := rfl
@[simp] theorem State.count_freeTaps (s : State) (c : ChanId) (f : ChanCounters → ChanCounters) : (s.count c f).freeTaps = s.freeTaps := rfl
@[simp] theorem State.count_dsu (s : State) (c : ChanId) (f : ChanCounters → ChanCounters) : (s.count c f).dsu = s.dsu := rfl
@[simp] theorem State.count_profiles (s : State) (c : ChanId) (f : ChanCounters → ChanCounters) : (s.count c f).profiles = s.profiles := rfl
@[simp] theorem State.count_lock (s : State) (c : ChanId) (f : ChanCounters → ChanCounters) : (s.count c f).lock = s.lock := rfl
@[simp] theorem State.count_device (s : State) (c : ChanId) (f : ChanCounters → ChanCounters) : (s.count c f).device = s.device := rfl
@[simp] theorem State.count_snapshot (s : State) (c : ChanId) (f : ChanCounters → ChanCounters) : (s.count c f).snapshot = s.snapshot := rfl
@[simp] theorem State.count_link (s : State) (c : ChanId) (f : ChanCounters → ChanCounters) : (s.count c f).link = s.link := rfl
@[simp] theorem State.count_nrstLow (s : State) (c : ChanId) (f : ChanCounters → ChanCounters) : (s.count c f).nrstLow = s.nrstLow := rfl
@[simp] theorem State.count_choice (s : State) (c : ChanId) (f : ChanCounters → ChanCounters) : (s.count c f).choice = s.choice := rfl
@[simp] theorem State.count_pending (s : State) (c : ChanId) (f : ChanCounters → ChanCounters) : (s.count c f).pending = s.pending := rfl

@[simp] theorem State.countDev_highway (s : State) (f : DevCounters → DevCounters) : (s.countDev f).highway = s.highway := rfl
@[simp] theorem State.countDev_channels (s : State) (f : DevCounters → DevCounters) : (s.countDev f).channels = s.channels := rfl
@[simp] theorem State.countDev_pageMem (s : State) (f : DevCounters → DevCounters) : (s.countDev f).pageMem = s.pageMem := rfl
@[simp] theorem State.countDev_freePages (s : State) (f : DevCounters → DevCounters) : (s.countDev f).freePages = s.freePages := rfl
@[simp] theorem State.countDev_freeTaps (s : State) (f : DevCounters → DevCounters) : (s.countDev f).freeTaps = s.freeTaps := rfl
@[simp] theorem State.countDev_dsu (s : State) (f : DevCounters → DevCounters) : (s.countDev f).dsu = s.dsu := rfl
@[simp] theorem State.countDev_profiles (s : State) (f : DevCounters → DevCounters) : (s.countDev f).profiles = s.profiles := rfl
@[simp] theorem State.countDev_lock (s : State) (f : DevCounters → DevCounters) : (s.countDev f).lock = s.lock := rfl
@[simp] theorem State.countDev_snapshot (s : State) (f : DevCounters → DevCounters) : (s.countDev f).snapshot = s.snapshot := rfl
@[simp] theorem State.countDev_link (s : State) (f : DevCounters → DevCounters) : (s.countDev f).link = s.link := rfl
@[simp] theorem State.countDev_nrstLow (s : State) (f : DevCounters → DevCounters) : (s.countDev f).nrstLow = s.nrstLow := rfl
@[simp] theorem State.countDev_choice (s : State) (f : DevCounters → DevCounters) : (s.countDev f).choice = s.choice := rfl
@[simp] theorem State.countDev_pending (s : State) (f : DevCounters → DevCounters) : (s.countDev f).pending = s.pending := rfl
@[simp] theorem State.countDev_ch (s : State) (f : DevCounters → DevCounters) (d : ChanId) : (s.countDev f).ch d = s.ch d := rfl

@[simp] theorem State.countUnbound_highway (s : State) : (s.countUnbound).highway = s.highway := rfl
@[simp] theorem State.countUnbound_channels (s : State) : (s.countUnbound).channels = s.channels := rfl
@[simp] theorem State.countUnbound_pageMem (s : State) : (s.countUnbound).pageMem = s.pageMem := rfl
@[simp] theorem State.countUnbound_freePages (s : State) : (s.countUnbound).freePages = s.freePages := rfl
@[simp] theorem State.countUnbound_freeTaps (s : State) : (s.countUnbound).freeTaps = s.freeTaps := rfl
@[simp] theorem State.countUnbound_dsu (s : State) : (s.countUnbound).dsu = s.dsu := rfl
@[simp] theorem State.countUnbound_profiles (s : State) : (s.countUnbound).profiles = s.profiles := rfl
@[simp] theorem State.countUnbound_lock (s : State) : (s.countUnbound).lock = s.lock := rfl
@[simp] theorem State.countUnbound_snapshot (s : State) : (s.countUnbound).snapshot = s.snapshot := rfl
@[simp] theorem State.countUnbound_link (s : State) : (s.countUnbound).link = s.link := rfl
@[simp] theorem State.countUnbound_nrstLow (s : State) : (s.countUnbound).nrstLow = s.nrstLow := rfl
@[simp] theorem State.countUnbound_choice (s : State) : (s.countUnbound).choice = s.choice := rfl
@[simp] theorem State.countUnbound_pending (s : State) : (s.countUnbound).pending = s.pending := rfl
@[simp] theorem State.countUnbound_ch (s : State) (d : ChanId) : (s.countUnbound).ch d = s.ch d := rfl

@[simp] theorem State.expireAll_highway (s : State) (c : ChanId) : (s.expireAll c).highway = s.highway := rfl
@[simp] theorem State.expireAll_pageMem (s : State) (c : ChanId) : (s.expireAll c).pageMem = s.pageMem := rfl
@[simp] theorem State.expireAll_freePages (s : State) (c : ChanId) : (s.expireAll c).freePages = s.freePages := rfl
@[simp] theorem State.expireAll_freeTaps (s : State) (c : ChanId) : (s.expireAll c).freeTaps = s.freeTaps := rfl
@[simp] theorem State.expireAll_dsu (s : State) (c : ChanId) : (s.expireAll c).dsu = s.dsu := rfl
@[simp] theorem State.expireAll_profiles (s : State) (c : ChanId) : (s.expireAll c).profiles = s.profiles := rfl
@[simp] theorem State.expireAll_lock (s : State) (c : ChanId) : (s.expireAll c).lock = s.lock := rfl
@[simp] theorem State.expireAll_device (s : State) (c : ChanId) : (s.expireAll c).device = s.device := rfl
@[simp] theorem State.expireAll_snapshot (s : State) (c : ChanId) : (s.expireAll c).snapshot = s.snapshot := rfl
@[simp] theorem State.expireAll_link (s : State) (c : ChanId) : (s.expireAll c).link = s.link := rfl
@[simp] theorem State.expireAll_nrstLow (s : State) (c : ChanId) : (s.expireAll c).nrstLow = s.nrstLow := rfl
@[simp] theorem State.expireAll_choice (s : State) (c : ChanId) : (s.expireAll c).choice = s.choice := rfl
@[simp] theorem State.expireAll_pending (s : State) (c : ChanId) : (s.expireAll c).pending = s.pending := rfl

@[simp] theorem State.endDrain_highway (s : State) (c : ChanId) (cause : DrainCause) (n : Nat) : (s.endDrain c cause n).highway = s.highway := rfl
@[simp] theorem State.endDrain_pageMem (s : State) (c : ChanId) (cause : DrainCause) (n : Nat) : (s.endDrain c cause n).pageMem = s.pageMem := rfl
@[simp] theorem State.endDrain_freePages (s : State) (c : ChanId) (cause : DrainCause) (n : Nat) : (s.endDrain c cause n).freePages = s.freePages := rfl
@[simp] theorem State.endDrain_freeTaps (s : State) (c : ChanId) (cause : DrainCause) (n : Nat) : (s.endDrain c cause n).freeTaps = s.freeTaps := rfl
@[simp] theorem State.endDrain_dsu (s : State) (c : ChanId) (cause : DrainCause) (n : Nat) : (s.endDrain c cause n).dsu = s.dsu := rfl
@[simp] theorem State.endDrain_profiles (s : State) (c : ChanId) (cause : DrainCause) (n : Nat) : (s.endDrain c cause n).profiles = s.profiles := rfl
@[simp] theorem State.endDrain_lock (s : State) (c : ChanId) (cause : DrainCause) (n : Nat) : (s.endDrain c cause n).lock = s.lock := rfl
@[simp] theorem State.endDrain_device (s : State) (c : ChanId) (cause : DrainCause) (n : Nat) : (s.endDrain c cause n).device = s.device := rfl
@[simp] theorem State.endDrain_snapshot (s : State) (c : ChanId) (cause : DrainCause) (n : Nat) : (s.endDrain c cause n).snapshot = s.snapshot := rfl
@[simp] theorem State.endDrain_nrstLow (s : State) (c : ChanId) (cause : DrainCause) (n : Nat) : (s.endDrain c cause n).nrstLow = s.nrstLow := rfl
@[simp] theorem State.endDrain_choice (s : State) (c : ChanId) (cause : DrainCause) (n : Nat) : (s.endDrain c cause n).choice = s.choice := rfl
@[simp] theorem State.endDrain_pending (s : State) (c : ChanId) (cause : DrainCause) (n : Nat) : (s.endDrain c cause n).pending = s.pending := rfl

@[simp] theorem State.endDrainExpiring_highway (s : State) (c : ChanId) (cause : DrainCause) : (s.endDrainExpiring c cause).highway = s.highway := rfl
@[simp] theorem State.endDrainExpiring_pageMem (s : State) (c : ChanId) (cause : DrainCause) : (s.endDrainExpiring c cause).pageMem = s.pageMem := rfl
@[simp] theorem State.endDrainExpiring_freePages (s : State) (c : ChanId) (cause : DrainCause) : (s.endDrainExpiring c cause).freePages = s.freePages := rfl
@[simp] theorem State.endDrainExpiring_freeTaps (s : State) (c : ChanId) (cause : DrainCause) : (s.endDrainExpiring c cause).freeTaps = s.freeTaps := rfl
@[simp] theorem State.endDrainExpiring_dsu (s : State) (c : ChanId) (cause : DrainCause) : (s.endDrainExpiring c cause).dsu = s.dsu := rfl
@[simp] theorem State.endDrainExpiring_profiles (s : State) (c : ChanId) (cause : DrainCause) : (s.endDrainExpiring c cause).profiles = s.profiles := rfl
@[simp] theorem State.endDrainExpiring_lock (s : State) (c : ChanId) (cause : DrainCause) : (s.endDrainExpiring c cause).lock = s.lock := rfl
@[simp] theorem State.endDrainExpiring_device (s : State) (c : ChanId) (cause : DrainCause) : (s.endDrainExpiring c cause).device = s.device := rfl
@[simp] theorem State.endDrainExpiring_snapshot (s : State) (c : ChanId) (cause : DrainCause) : (s.endDrainExpiring c cause).snapshot = s.snapshot := rfl
@[simp] theorem State.endDrainExpiring_nrstLow (s : State) (c : ChanId) (cause : DrainCause) : (s.endDrainExpiring c cause).nrstLow = s.nrstLow := rfl
@[simp] theorem State.endDrainExpiring_choice (s : State) (c : ChanId) (cause : DrainCause) : (s.endDrainExpiring c cause).choice = s.choice := rfl
@[simp] theorem State.endDrainExpiring_pending (s : State) (c : ChanId) (cause : DrainCause) : (s.endDrainExpiring c cause).pending = s.pending := rfl

@[simp] theorem State.nextChoice_highway (s : State) : (s.nextChoice).highway = s.highway := rfl
@[simp] theorem State.nextChoice_channels (s : State) : (s.nextChoice).channels = s.channels := rfl
@[simp] theorem State.nextChoice_pageMem (s : State) : (s.nextChoice).pageMem = s.pageMem := rfl
@[simp] theorem State.nextChoice_freePages (s : State) : (s.nextChoice).freePages = s.freePages := rfl
@[simp] theorem State.nextChoice_freeTaps (s : State) : (s.nextChoice).freeTaps = s.freeTaps := rfl
@[simp] theorem State.nextChoice_dsu (s : State) : (s.nextChoice).dsu = s.dsu := rfl
@[simp] theorem State.nextChoice_profiles (s : State) : (s.nextChoice).profiles = s.profiles := rfl
@[simp] theorem State.nextChoice_lock (s : State) : (s.nextChoice).lock = s.lock := rfl
@[simp] theorem State.nextChoice_device (s : State) : (s.nextChoice).device = s.device := rfl
@[simp] theorem State.nextChoice_snapshot (s : State) : (s.nextChoice).snapshot = s.snapshot := rfl
@[simp] theorem State.nextChoice_link (s : State) : (s.nextChoice).link = s.link := rfl
@[simp] theorem State.nextChoice_nrstLow (s : State) : (s.nextChoice).nrstLow = s.nrstLow := rfl
@[simp] theorem State.nextChoice_pending (s : State) : (s.nextChoice).pending = s.pending := rfl
@[simp] theorem State.nextChoice_ch (s : State) (d : ChanId) : (s.nextChoice).ch d = s.ch d := rfl

@[simp] theorem State.setUnit_highway (s : State) (i : Fin 4) (k : Option Correlator) : (s.setUnit i k).highway = s.highway := rfl
@[simp] theorem State.setUnit_channels (s : State) (i : Fin 4) (k : Option Correlator) : (s.setUnit i k).channels = s.channels := rfl
@[simp] theorem State.setUnit_pageMem (s : State) (i : Fin 4) (k : Option Correlator) : (s.setUnit i k).pageMem = s.pageMem := rfl
@[simp] theorem State.setUnit_freePages (s : State) (i : Fin 4) (k : Option Correlator) : (s.setUnit i k).freePages = s.freePages := rfl
@[simp] theorem State.setUnit_freeTaps (s : State) (i : Fin 4) (k : Option Correlator) : (s.setUnit i k).freeTaps = s.freeTaps := rfl
@[simp] theorem State.setUnit_profiles (s : State) (i : Fin 4) (k : Option Correlator) : (s.setUnit i k).profiles = s.profiles := rfl
@[simp] theorem State.setUnit_lock (s : State) (i : Fin 4) (k : Option Correlator) : (s.setUnit i k).lock = s.lock := rfl
@[simp] theorem State.setUnit_device (s : State) (i : Fin 4) (k : Option Correlator) : (s.setUnit i k).device = s.device := rfl
@[simp] theorem State.setUnit_snapshot (s : State) (i : Fin 4) (k : Option Correlator) : (s.setUnit i k).snapshot = s.snapshot := rfl
@[simp] theorem State.setUnit_link (s : State) (i : Fin 4) (k : Option Correlator) : (s.setUnit i k).link = s.link := rfl
@[simp] theorem State.setUnit_nrstLow (s : State) (i : Fin 4) (k : Option Correlator) : (s.setUnit i k).nrstLow = s.nrstLow := rfl
@[simp] theorem State.setUnit_choice (s : State) (i : Fin 4) (k : Option Correlator) : (s.setUnit i k).choice = s.choice := rfl
@[simp] theorem State.setUnit_pending (s : State) (i : Fin 4) (k : Option Correlator) : (s.setUnit i k).pending = s.pending := rfl
@[simp] theorem State.setUnit_ch (s : State) (i : Fin 4) (k : Option Correlator) (d : ChanId) : (s.setUnit i k).ch d = s.ch d := rfl

@[simp] theorem State.unqueue_highway (s : State) (c : ChanId) : (s.unqueue c).highway = s.highway := rfl
@[simp] theorem State.unqueue_channels (s : State) (c : ChanId) : (s.unqueue c).channels = s.channels := rfl
@[simp] theorem State.unqueue_pageMem (s : State) (c : ChanId) : (s.unqueue c).pageMem = s.pageMem := rfl
@[simp] theorem State.unqueue_freePages (s : State) (c : ChanId) : (s.unqueue c).freePages = s.freePages := rfl
@[simp] theorem State.unqueue_freeTaps (s : State) (c : ChanId) : (s.unqueue c).freeTaps = s.freeTaps := rfl
@[simp] theorem State.unqueue_profiles (s : State) (c : ChanId) : (s.unqueue c).profiles = s.profiles := rfl
@[simp] theorem State.unqueue_lock (s : State) (c : ChanId) : (s.unqueue c).lock = s.lock := rfl
@[simp] theorem State.unqueue_device (s : State) (c : ChanId) : (s.unqueue c).device = s.device := rfl
@[simp] theorem State.unqueue_snapshot (s : State) (c : ChanId) : (s.unqueue c).snapshot = s.snapshot := rfl
@[simp] theorem State.unqueue_link (s : State) (c : ChanId) : (s.unqueue c).link = s.link := rfl
@[simp] theorem State.unqueue_nrstLow (s : State) (c : ChanId) : (s.unqueue c).nrstLow = s.nrstLow := rfl
@[simp] theorem State.unqueue_choice (s : State) (c : ChanId) : (s.unqueue c).choice = s.choice := rfl
@[simp] theorem State.unqueue_pending (s : State) (c : ChanId) : (s.unqueue c).pending = s.pending := rfl
@[simp] theorem State.unqueue_ch (s : State) (c : ChanId) (d : ChanId) : (s.unqueue c).ch d = s.ch d := rfl

@[simp] theorem State.recordSurvey_highway (s : State) (c : ChanId) (r : SurveyRecord) : (s.recordSurvey c r).highway = s.highway := rfl
@[simp] theorem State.recordSurvey_pageMem (s : State) (c : ChanId) (r : SurveyRecord) : (s.recordSurvey c r).pageMem = s.pageMem := rfl
@[simp] theorem State.recordSurvey_freePages (s : State) (c : ChanId) (r : SurveyRecord) : (s.recordSurvey c r).freePages = s.freePages := rfl
@[simp] theorem State.recordSurvey_freeTaps (s : State) (c : ChanId) (r : SurveyRecord) : (s.recordSurvey c r).freeTaps = s.freeTaps := rfl
@[simp] theorem State.recordSurvey_dsu (s : State) (c : ChanId) (r : SurveyRecord) : (s.recordSurvey c r).dsu = s.dsu := rfl
@[simp] theorem State.recordSurvey_profiles (s : State) (c : ChanId) (r : SurveyRecord) : (s.recordSurvey c r).profiles = s.profiles := rfl
@[simp] theorem State.recordSurvey_lock (s : State) (c : ChanId) (r : SurveyRecord) : (s.recordSurvey c r).lock = s.lock := rfl
@[simp] theorem State.recordSurvey_device (s : State) (c : ChanId) (r : SurveyRecord) : (s.recordSurvey c r).device = s.device := rfl
@[simp] theorem State.recordSurvey_snapshot (s : State) (c : ChanId) (r : SurveyRecord) : (s.recordSurvey c r).snapshot = s.snapshot := rfl
@[simp] theorem State.recordSurvey_nrstLow (s : State) (c : ChanId) (r : SurveyRecord) : (s.recordSurvey c r).nrstLow = s.nrstLow := rfl
@[simp] theorem State.recordSurvey_choice (s : State) (c : ChanId) (r : SurveyRecord) : (s.recordSurvey c r).choice = s.choice := rfl
@[simp] theorem State.recordSurvey_pending (s : State) (c : ChanId) (r : SurveyRecord) : (s.recordSurvey c r).pending = s.pending := rfl

@[simp] theorem State.placeReply_highway (s : State) (r : Reply) : (s.placeReply r).highway = s.highway := rfl
@[simp] theorem State.placeReply_channels (s : State) (r : Reply) : (s.placeReply r).channels = s.channels := rfl
@[simp] theorem State.placeReply_pageMem (s : State) (r : Reply) : (s.placeReply r).pageMem = s.pageMem := rfl
@[simp] theorem State.placeReply_freePages (s : State) (r : Reply) : (s.placeReply r).freePages = s.freePages := rfl
@[simp] theorem State.placeReply_freeTaps (s : State) (r : Reply) : (s.placeReply r).freeTaps = s.freeTaps := rfl
@[simp] theorem State.placeReply_dsu (s : State) (r : Reply) : (s.placeReply r).dsu = s.dsu := rfl
@[simp] theorem State.placeReply_profiles (s : State) (r : Reply) : (s.placeReply r).profiles = s.profiles := rfl
@[simp] theorem State.placeReply_lock (s : State) (r : Reply) : (s.placeReply r).lock = s.lock := rfl
@[simp] theorem State.placeReply_device (s : State) (r : Reply) : (s.placeReply r).device = s.device := rfl
@[simp] theorem State.placeReply_snapshot (s : State) (r : Reply) : (s.placeReply r).snapshot = s.snapshot := rfl
@[simp] theorem State.placeReply_nrstLow (s : State) (r : Reply) : (s.placeReply r).nrstLow = s.nrstLow := rfl
@[simp] theorem State.placeReply_choice (s : State) (r : Reply) : (s.placeReply r).choice = s.choice := rfl
@[simp] theorem State.placeReply_pending (s : State) (r : Reply) : (s.placeReply r).pending = s.pending := rfl
@[simp] theorem State.placeReply_ch (s : State) (r : Reply) (d : ChanId) : (s.placeReply r).ch d = s.ch d := rfl

@[simp] theorem State.setReceiver_highway (s : State) (st : RxState) (bytes : List Byte) : (s.setReceiver st bytes).highway = s.highway := rfl
@[simp] theorem State.setReceiver_channels (s : State) (st : RxState) (bytes : List Byte) : (s.setReceiver st bytes).channels = s.channels := rfl
@[simp] theorem State.setReceiver_pageMem (s : State) (st : RxState) (bytes : List Byte) : (s.setReceiver st bytes).pageMem = s.pageMem := rfl
@[simp] theorem State.setReceiver_freePages (s : State) (st : RxState) (bytes : List Byte) : (s.setReceiver st bytes).freePages = s.freePages := rfl
@[simp] theorem State.setReceiver_freeTaps (s : State) (st : RxState) (bytes : List Byte) : (s.setReceiver st bytes).freeTaps = s.freeTaps := rfl
@[simp] theorem State.setReceiver_dsu (s : State) (st : RxState) (bytes : List Byte) : (s.setReceiver st bytes).dsu = s.dsu := rfl
@[simp] theorem State.setReceiver_profiles (s : State) (st : RxState) (bytes : List Byte) : (s.setReceiver st bytes).profiles = s.profiles := rfl
@[simp] theorem State.setReceiver_lock (s : State) (st : RxState) (bytes : List Byte) : (s.setReceiver st bytes).lock = s.lock := rfl
@[simp] theorem State.setReceiver_device (s : State) (st : RxState) (bytes : List Byte) : (s.setReceiver st bytes).device = s.device := rfl
@[simp] theorem State.setReceiver_snapshot (s : State) (st : RxState) (bytes : List Byte) : (s.setReceiver st bytes).snapshot = s.snapshot := rfl
@[simp] theorem State.setReceiver_nrstLow (s : State) (st : RxState) (bytes : List Byte) : (s.setReceiver st bytes).nrstLow = s.nrstLow := rfl
@[simp] theorem State.setReceiver_choice (s : State) (st : RxState) (bytes : List Byte) : (s.setReceiver st bytes).choice = s.choice := rfl
@[simp] theorem State.setReceiver_pending (s : State) (st : RxState) (bytes : List Byte) : (s.setReceiver st bytes).pending = s.pending := rfl
@[simp] theorem State.setReceiver_ch (s : State) (st : RxState) (bytes : List Byte) (d : ChanId) : (s.setReceiver st bytes).ch d = s.ch d := rfl

@[simp] theorem State.fixDrive_channels (s : State) : (s.fixDrive).channels = s.channels := by simp only [State.fixDrive]
@[simp] theorem State.fixDrive_pageMem (s : State) : (s.fixDrive).pageMem = s.pageMem := by simp only [State.fixDrive]
@[simp] theorem State.fixDrive_freePages (s : State) : (s.fixDrive).freePages = s.freePages := by simp only [State.fixDrive]
@[simp] theorem State.fixDrive_freeTaps (s : State) : (s.fixDrive).freeTaps = s.freeTaps := by simp only [State.fixDrive]
@[simp] theorem State.fixDrive_dsu (s : State) : (s.fixDrive).dsu = s.dsu := by simp only [State.fixDrive]
@[simp] theorem State.fixDrive_profiles (s : State) : (s.fixDrive).profiles = s.profiles := by simp only [State.fixDrive]
@[simp] theorem State.fixDrive_lock (s : State) : (s.fixDrive).lock = s.lock := by simp only [State.fixDrive]
@[simp] theorem State.fixDrive_device (s : State) : (s.fixDrive).device = s.device := by simp only [State.fixDrive]
@[simp] theorem State.fixDrive_snapshot (s : State) : (s.fixDrive).snapshot = s.snapshot := by simp only [State.fixDrive]
@[simp] theorem State.fixDrive_link (s : State) : (s.fixDrive).link = s.link := by simp only [State.fixDrive]
@[simp] theorem State.fixDrive_nrstLow (s : State) : (s.fixDrive).nrstLow = s.nrstLow := by simp only [State.fixDrive]
@[simp] theorem State.fixDrive_choice (s : State) : (s.fixDrive).choice = s.choice := by simp only [State.fixDrive]
@[simp] theorem State.fixDrive_pending (s : State) : (s.fixDrive).pending = s.pending := by simp only [State.fixDrive]
@[simp] theorem State.fixDrive_ch (s : State) (d : ChanId) : (s.fixDrive).ch d = s.ch d := by simp only [State.fixDrive, State.ch]

@[simp] theorem State.modLink_link (s : State) (f : Link → Link) : (s.modLink f).link = f s.link := rfl
@[simp] theorem State.raise_link (s : State) (b : Byte) (n : NoticeBody) :
    (s.raise b n).link = { s.link with notices := placeNotice b n s.link.notices } := rfl
@[simp] theorem State.raiseCh_link (s : State) (c : ChanId) (n : NoticeBody) :
    (s.raiseCh c n).link = { s.link with notices := placeNotice (chanByte c) n s.link.notices } := rfl
@[simp] theorem State.settle_link (s : State) : s.settle.link = { s.link with attn := attnDue s.link } := rfl
@[simp] theorem State.placeReply_link (s : State) (r : Reply) :
    (s.placeReply r).link = { s.link with replies := s.link.replies ++ [r] } := rfl
@[simp] theorem State.countDev_device (s : State) (f : DevCounters → DevCounters) :
    (s.countDev f).device = f s.device := rfl
@[simp] theorem State.nextChoice_choice (s : State) : s.nextChoice.choice = s.choice + 1 := rfl

@[simp] theorem State.foundHfs_channels (s : State) (hfs : List Bool) : (s.foundHfs hfs).channels = s.channels := rfl
@[simp] theorem State.foundHfs_pageMem (s : State) (hfs : List Bool) : (s.foundHfs hfs).pageMem = s.pageMem := rfl
@[simp] theorem State.foundHfs_freePages (s : State) (hfs : List Bool) : (s.foundHfs hfs).freePages = s.freePages := rfl
@[simp] theorem State.foundHfs_freeTaps (s : State) (hfs : List Bool) : (s.foundHfs hfs).freeTaps = s.freeTaps := rfl
@[simp] theorem State.foundHfs_dsu (s : State) (hfs : List Bool) : (s.foundHfs hfs).dsu = s.dsu := rfl
@[simp] theorem State.foundHfs_profiles (s : State) (hfs : List Bool) : (s.foundHfs hfs).profiles = s.profiles := rfl
@[simp] theorem State.foundHfs_lock (s : State) (hfs : List Bool) : (s.foundHfs hfs).lock = s.lock := rfl
@[simp] theorem State.foundHfs_device (s : State) (hfs : List Bool) : (s.foundHfs hfs).device = s.device := rfl
@[simp] theorem State.foundHfs_snapshot (s : State) (hfs : List Bool) : (s.foundHfs hfs).snapshot = s.snapshot := rfl
@[simp] theorem State.foundHfs_link (s : State) (hfs : List Bool) : (s.foundHfs hfs).link = s.link := rfl
@[simp] theorem State.foundHfs_nrstLow (s : State) (hfs : List Bool) : (s.foundHfs hfs).nrstLow = s.nrstLow := rfl
@[simp] theorem State.foundHfs_choice (s : State) (hfs : List Bool) : (s.foundHfs hfs).choice = s.choice := rfl
@[simp] theorem State.foundHfs_pending (s : State) (hfs : List Bool) : (s.foundHfs hfs).pending = s.pending := rfl
@[simp] theorem State.foundHfs_ch (s : State) (hfs : List Bool) (d : ChanId) : (s.foundHfs hfs).ch d = s.ch d := rfl
@[simp] theorem State.foundHfs_highway (s : State) (hfs : List Bool) :
    (s.foundHfs hfs).highway = { s.highway with hfs := hfs.getLastD s.highway.hfs } := rfl

/-! ### Updates of every channel at once -/

@[simp] theorem State.guardOpen_ch (s : State) (d : ChanId) : s.guardOpen.ch d = guardIfOpen (s.ch d) := by
  simp [State.guardOpen, State.ch]
@[simp] theorem State.clearCounters_ch (s : State) (d : ChanId) :
    s.clearCounters.ch d = { s.ch d with counters := ChanCounters.zero } := by
  simp [State.clearCounters, State.ch]
@[simp] theorem State.resetPart_ch (s : State) (revert : Bool) (d : ChanId) :
    (s.resetPart revert).ch d = Channel.blank ChanCounters.zero := by
  simp [State.resetPart, State.ch]
@[simp] theorem State.powerUp_ch (s : State) (d : ChanId) : s.powerUp.ch d = Channel.blank ChanCounters.zero := by
  simp [State.powerUp, State.reset, State.ch]
@[simp] theorem State.reset_ch (d : ChanId) : State.reset.ch d = Channel.blank ChanCounters.zero := by
  simp [State.reset, State.ch]
@[simp] theorem State.restartSurveys_ch (s : State) (d : ChanId) : s.restartSurveys.ch d = s.ch d := by
  simp only [State.restartSurveys, State.ch]
@[simp] theorem State.restartSurveys_queue (s : State) : s.restartSurveys.dsu.queue = s.dsu.queue := by
  simp only [State.restartSurveys]
@[simp] theorem State.restartSurveys_unit (s : State) (i : Fin 4) :
    s.restartSurveys.dsu.unit i = (s.dsu.unit i).map restartAtAcquisition := by
  simp [State.restartSurveys, Dsu.unit]
@[simp] theorem State.setUnit_unit_same (s : State) (i : Fin 4) (k : Option Correlator) :
    (s.setUnit i k).dsu.unit i = k := by
  simp [State.setUnit, Dsu.unit]
@[simp] theorem State.setUnit_unit_ne (s : State) (i j : Fin 4) (k : Option Correlator) (h : j ≠ i) :
    (s.setUnit i k).dsu.unit j = s.dsu.unit j := by
  have : i.val ≠ j.val := fun e => h (Fin.ext e.symm)
  simp [State.setUnit, Dsu.unit, Vector.getElem_set_ne, this]
@[simp] theorem State.setUnit_queue (s : State) (i : Fin 4) (k : Option Correlator) :
    (s.setUnit i k).dsu.queue = s.dsu.queue := rfl
@[simp] theorem State.setSlot_owner_same (s : State) (sl : SlotId) (e : Option ChanId) :
    (s.setSlot sl e).slotOwner sl = e := by
  simp [State.setSlot, State.slotOwner]
@[simp] theorem State.setSlot_owner_ne (s : State) (sl sm : SlotId) (e : Option ChanId) (h : sm ≠ sl) :
    (s.setSlot sl e).slotOwner sm = s.slotOwner sm := by
  have : sl.val ≠ sm.val := fun h' => h (Fin.ext h'.symm)
  simp [State.setSlot, State.slotOwner, Vector.getElem_set_ne, this]
@[simp] theorem State.guardOpen_highway (s : State) : s.guardOpen.highway = s.highway := by simp only [State.guardOpen]
@[simp] theorem State.guardOpen_pageMem (s : State) : s.guardOpen.pageMem = s.pageMem := by simp only [State.guardOpen]
@[simp] theorem State.guardOpen_freePages (s : State) : s.guardOpen.freePages = s.freePages := by simp only [State.guardOpen]
@[simp] theorem State.guardOpen_freeTaps (s : State) : s.guardOpen.freeTaps = s.freeTaps := by simp only [State.guardOpen]
@[simp] theorem State.guardOpen_dsu (s : State) : s.guardOpen.dsu = s.dsu := by simp only [State.guardOpen]
@[simp] theorem State.guardOpen_profiles (s : State) : s.guardOpen.profiles = s.profiles := by simp only [State.guardOpen]
@[simp] theorem State.guardOpen_lock (s : State) : s.guardOpen.lock = s.lock := by simp only [State.guardOpen]
@[simp] theorem State.guardOpen_device (s : State) : s.guardOpen.device = s.device := by simp only [State.guardOpen]
@[simp] theorem State.guardOpen_snapshot (s : State) : s.guardOpen.snapshot = s.snapshot := by simp only [State.guardOpen]
@[simp] theorem State.guardOpen_link (s : State) : s.guardOpen.link = s.link := by simp only [State.guardOpen]
@[simp] theorem State.guardOpen_nrstLow (s : State) : s.guardOpen.nrstLow = s.nrstLow := by simp only [State.guardOpen]
@[simp] theorem State.guardOpen_choice (s : State) : s.guardOpen.choice = s.choice := by simp only [State.guardOpen]
@[simp] theorem State.guardOpen_pending (s : State) : s.guardOpen.pending = s.pending := by simp only [State.guardOpen]
@[simp] theorem State.clearCounters_highway (s : State) : s.clearCounters.highway = s.highway := by simp only [State.clearCounters]
@[simp] theorem State.clearCounters_pageMem (s : State) : s.clearCounters.pageMem = s.pageMem := by simp only [State.clearCounters]
@[simp] theorem State.clearCounters_freePages (s : State) : s.clearCounters.freePages = s.freePages := by simp only [State.clearCounters]
@[simp] theorem State.clearCounters_freeTaps (s : State) : s.clearCounters.freeTaps = s.freeTaps := by simp only [State.clearCounters]
@[simp] theorem State.clearCounters_dsu (s : State) : s.clearCounters.dsu = s.dsu := by simp only [State.clearCounters]
@[simp] theorem State.clearCounters_profiles (s : State) : s.clearCounters.profiles = s.profiles := by simp only [State.clearCounters]
@[simp] theorem State.clearCounters_lock (s : State) : s.clearCounters.lock = s.lock := by simp only [State.clearCounters]
@[simp] theorem State.clearCounters_snapshot (s : State) : s.clearCounters.snapshot = s.snapshot := by simp only [State.clearCounters]
@[simp] theorem State.clearCounters_link (s : State) : s.clearCounters.link = s.link := by simp only [State.clearCounters]
@[simp] theorem State.clearCounters_nrstLow (s : State) : s.clearCounters.nrstLow = s.nrstLow := by simp only [State.clearCounters]
@[simp] theorem State.clearCounters_choice (s : State) : s.clearCounters.choice = s.choice := by simp only [State.clearCounters]
@[simp] theorem State.clearCounters_pending (s : State) : s.clearCounters.pending = s.pending := by simp only [State.clearCounters]
@[simp] theorem State.restartSurveys_highway (s : State) : s.restartSurveys.highway = s.highway := by simp only [State.restartSurveys]
@[simp] theorem State.restartSurveys_channels (s : State) : s.restartSurveys.channels = s.channels := by simp only [State.restartSurveys]
@[simp] theorem State.restartSurveys_pageMem (s : State) : s.restartSurveys.pageMem = s.pageMem := by simp only [State.restartSurveys]
@[simp] theorem State.restartSurveys_freePages (s : State) : s.restartSurveys.freePages = s.freePages := by simp only [State.restartSurveys]
@[simp] theorem State.restartSurveys_freeTaps (s : State) : s.restartSurveys.freeTaps = s.freeTaps := by simp only [State.restartSurveys]
@[simp] theorem State.restartSurveys_profiles (s : State) : s.restartSurveys.profiles = s.profiles := by simp only [State.restartSurveys]
@[simp] theorem State.restartSurveys_lock (s : State) : s.restartSurveys.lock = s.lock := by simp only [State.restartSurveys]
@[simp] theorem State.restartSurveys_device (s : State) : s.restartSurveys.device = s.device := by simp only [State.restartSurveys]
@[simp] theorem State.restartSurveys_snapshot (s : State) : s.restartSurveys.snapshot = s.snapshot := by simp only [State.restartSurveys]
@[simp] theorem State.restartSurveys_link (s : State) : s.restartSurveys.link = s.link := by simp only [State.restartSurveys]
@[simp] theorem State.restartSurveys_nrstLow (s : State) : s.restartSurveys.nrstLow = s.nrstLow := by simp only [State.restartSurveys]
@[simp] theorem State.restartSurveys_choice (s : State) : s.restartSurveys.choice = s.choice := by simp only [State.restartSurveys]
@[simp] theorem State.restartSurveys_pending (s : State) : s.restartSurveys.pending = s.pending := by simp only [State.restartSurveys]

@[simp] theorem State.setNrst_highway (s : State) (low : Bool) : (s.setNrst low).highway = s.highway := rfl
@[simp] theorem State.setNrst_channels (s : State) (low : Bool) : (s.setNrst low).channels = s.channels := rfl
@[simp] theorem State.setNrst_pageMem (s : State) (low : Bool) : (s.setNrst low).pageMem = s.pageMem := rfl
@[simp] theorem State.setNrst_freePages (s : State) (low : Bool) : (s.setNrst low).freePages = s.freePages := rfl
@[simp] theorem State.setNrst_freeTaps (s : State) (low : Bool) : (s.setNrst low).freeTaps = s.freeTaps := rfl
@[simp] theorem State.setNrst_dsu (s : State) (low : Bool) : (s.setNrst low).dsu = s.dsu := rfl
@[simp] theorem State.setNrst_profiles (s : State) (low : Bool) : (s.setNrst low).profiles = s.profiles := rfl
@[simp] theorem State.setNrst_lock (s : State) (low : Bool) : (s.setNrst low).lock = s.lock := rfl
@[simp] theorem State.setNrst_device (s : State) (low : Bool) : (s.setNrst low).device = s.device := rfl
@[simp] theorem State.setNrst_snapshot (s : State) (low : Bool) : (s.setNrst low).snapshot = s.snapshot := rfl
@[simp] theorem State.setNrst_link (s : State) (low : Bool) : (s.setNrst low).link = s.link := rfl
@[simp] theorem State.setNrst_choice (s : State) (low : Bool) : (s.setNrst low).choice = s.choice := rfl
@[simp] theorem State.setNrst_pending (s : State) (low : Bool) : (s.setNrst low).pending = s.pending := rfl
@[simp] theorem State.setNrst_nrstLow (s : State) (low : Bool) : (s.setNrst low).nrstLow = low := rfl
@[simp] theorem State.setNrst_ch (s : State) (low : Bool) (d : ChanId) : (s.setNrst low).ch d = s.ch d := rfl
@[simp] theorem State.powerUp_highway (s : State) : s.powerUp.highway = State.reset.highway := by simp only [State.powerUp]
@[simp] theorem State.powerUp_pageMem (s : State) : s.powerUp.pageMem = State.reset.pageMem := by simp only [State.powerUp]
@[simp] theorem State.powerUp_freePages (s : State) : s.powerUp.freePages = State.reset.freePages := by simp only [State.powerUp]
@[simp] theorem State.powerUp_freeTaps (s : State) : s.powerUp.freeTaps = State.reset.freeTaps := by simp only [State.powerUp]
@[simp] theorem State.powerUp_dsu (s : State) : s.powerUp.dsu = State.reset.dsu := by simp only [State.powerUp]
@[simp] theorem State.powerUp_profiles (s : State) : s.powerUp.profiles = State.reset.profiles := by simp only [State.powerUp]
@[simp] theorem State.powerUp_lock (s : State) : s.powerUp.lock = State.reset.lock := by simp only [State.powerUp]
@[simp] theorem State.powerUp_device (s : State) : s.powerUp.device = State.reset.device := by simp only [State.powerUp]
@[simp] theorem State.powerUp_snapshot (s : State) : s.powerUp.snapshot = State.reset.snapshot := by simp only [State.powerUp]
@[simp] theorem State.powerUp_link (s : State) : s.powerUp.link = State.reset.link := by simp only [State.powerUp]
@[simp] theorem State.powerUp_nrstLow (s : State) : s.powerUp.nrstLow = State.reset.nrstLow := by simp only [State.powerUp]
@[simp] theorem State.powerUp_choice (s : State) : s.powerUp.choice = s.choice := by simp only [State.powerUp]
@[simp] theorem State.powerUp_pending (s : State) : s.powerUp.pending = s.pending := by simp only [State.powerUp]

/-! ### Every lemma above, for the completed act -/

@[simp] theorem State.done_eq (s : State) : s.done = .next s.settle := rfl

@[simp] theorem unlessHeld_low (s : State) (body : StepResult) (h : s.nrstLow = true) :
    unlessHeld s body = .next s := by simp [unlessHeld, h]

@[simp] theorem unlessHeld_high (s : State) (body : StepResult) (h : s.nrstLow = false) :
    unlessHeld s body = body := by simp [unlessHeld, h]

end Sys2Proof.Machine
end

