-- ==== Sys2Proof/Laws/Acts.lean ====
section
/-! SUPPORT. What one command can do, said once: every completed command is a chain of the acts of `Act`, and an act on one
channel's context is one of `ChanStep`. A property that each act keeps is kept by every command (`exec_acts`). -/

namespace Sys2Proof.Laws
open Sys2Proof.Machine Sys2Proof.Safety

/-- What one act does to one channel's context, its slot, params and pages apart, which no act but BIND and RELEASE
changes. Each constructor carries what the act's caller knows of the context before. -/
inductive ChanStep : Channel → Channel → Prop
  | transmit (ch : Channel) (probing : Bool) : ChanStep ch (chooseSample ch probing).channel
  | append (ch : Channel) (xs : List Sample) (h : ch.level + xs.length ≤ 320) :
      ChanStep ch (appendSamples ch xs).channel
  | receive (ch : Channel) (rx : Option Sample) : ChanStep ch (receiveStage ch rx)
  | update (ch : Channel) (x : Nat → Sample) (r : Sample) : ChanStep ch (echoUpdate ch x r)
  | countDown (ch : Channel) (hm : ch.echo.mode = .train) (h : ch.echo.trainCount - 1 ≠ 0) :
      ChanStep ch (countTraining ch)
  | expire (ch : Channel) (hm : ch.echo.mode = .train) (he : ch.echo.extension = none) :
      ChanStep ch (expiredTraining ch)
  | extend (ch : Channel) (n : Nat) (hm : ch.echo.mode = .train) (he : ch.echo.extension = some n) :
      ChanStep ch (takenExtension ch n)
  | counters (ch : Channel) (k : ChanCounters) : ChanStep ch { ch with counters := k }
  | apply (ch : Channel) (lag : Nat) : ChanStep ch (applyResult ch lag)
  | filter (ch : Channel) (rx r : Sample) : ChanStep ch (eqStage (powerStage ch rx r) r)
  | complete (ch : Channel) (k : ChanCounters) (h : ch.eq.outputs.length = ch.params.blockSize) :
      ChanStep ch { makeEntry (consumeSeq ch) (entryOf ch) with counters := k }
  | diverge (ch : Channel) : ChanStep ch (divergedChannel ch)
  | strikes (ch : Channel) (n : Nat) (h : n ≤ 2) : ChanStep ch (setStrikes ch n)
  | arms (ch : Channel) (e m : Arming) :
      ChanStep ch { ch with quality := { ch.quality with erleArm := e, mseArm := m } }
  | emptied (ch : Channel) : ChanStep ch (emptyBlock ch)
  | ended (ch : Channel) : ChanStep ch (endTurn ch)
  | drainTick (ch : Channel) : ChanStep ch { ch with drainCount := ch.drainCount + 1 }
  | halt (ch : Channel) (h : ch.state = .draining) (hp : ch.eq.pendingRefs = []) :
      ChanStep ch { ch with state := .halted }
  | expireRefs (ch : Channel) (k : ChanCounters) :
      ChanStep ch { ch with eq := { ch.eq with pendingRefs := [] }, counters := k }
  | matched (ch : Channel) (seq : Word) (erase : Bool) (refs : List Sample) :
      ChanStep ch (matchRef ch seq erase refs)
  | setEcho (ch : Channel) (mode : EchoMode) (count : Nat) (thenMode : EchoMode)
      (h : mode = .train ↔ 1 ≤ count) (hc : count ≤ 65535) (ht : thenMode ≠ .train ∨ thenMode = ch.echo.thenMode) :
      ChanStep ch (setEchoMode ch mode count thenMode)
  | setExt (ch : Channel) (n : Nat) (hm : ch.echo.mode = .train) (h : 1 ≤ n ∧ n ≤ 65535) :
      ChanStep ch (setExtension ch n)
  | delay (ch : Channel) (d : Nat) (zero : Bool) : ChanStep ch (setDelay ch d zero)
  | eqMode (ch : Channel) (mode : EqMode) (k : ChanCounters) :
      ChanStep ch
        { ch with
          eq := { ch.eq with mode := mode, pendingRefs := if mode = .bypass then [] else ch.eq.pendingRefs }
          counters := k }
  | cursor (ch : Channel) (set : TapSet) (taps : List Sample) (start count : Nat) (ht : tapsOf ch set = some taps)
      (h : start < taps.length) : ChanStep ch (moveCursor ch set taps.length start count)
  | taps (ch : Channel) (set : TapSet) (taps values : List Sample) (start : Nat) (ht : tapsOf ch set = some taps) :
      ChanStep ch (setTaps ch set (overwrite taps start values))
  | checkpoint (ch : Channel) : ChanStep ch (takeCheckpoint ch)
  | restore (ch : Channel) (k : Machine.Checkpoint) (h : ch.echo.checkpoint = some k) :
      ChanStep ch (loadCheckpoint ch k)

/-- What one act does to the state. -/
inductive Act : State → State → Prop
  | highway (s : State) (h : Highway) (hm : h.slotMap = s.highway.slotMap) : Act s { s with highway := h }
  | page (s : State) (a : Nat) (x : Sample) : Act s { s with pageMem := memWrite s.pageMem a x }
  | device (s : State) (d : DevCounters) : Act s { s with device := d }
  | chan (s : State) (c : ChanId) (x : Channel) (h : ChanStep (s.ch c) x) : Act s (s.setCh c x)
  | guarded (s : State) : Act s s.guardOpen
  | restarted (s : State) : Act s s.restartSurveys
  | raised (s : State) (b : Byte) (body : NoticeBody) (h : ∀ c : ChanId, b = chanByte c → (s.ch c).state ≠ .free) :
      Act s (s.raise b body)
  | link (s : State) (l : Link) (hq : s.link.requests.length ≤ 16 → l.requests.length ≤ 16)
      (hr : s.link.replies.length ≤ 16 → l.replies.length ≤ 16)
      (hd : s.link.dataQueue.length ≤ 64 → l.dataQueue.length ≤ 64)
      (hn : l.notices.Sublist s.link.notices) (hb : s.link.spiBits.length < 8 → l.spiBits.length < 8)
      (hx : ReceiverState s.link → ReceiverState l) : Act s { s with link := l }
  | unit (s : State) (i : Fin 4) (k k' : Correlator) (h : s.dsu.unit i = some k) (he : k'.entry = k.entry)
      (hk : UnitOk k → UnitOk k') : Act s (s.setUnit i (some k'))
  | queue (s : State) (e : SurveyEntry) (ho : (s.ch e.channel).state = .opened)
      (hn : (s.ch e.channel).survey = .noSurvey) (hl : LagsFit (s.ch e.channel).params.maxDelay e) :
      Act s (s.queueSurvey e)
  | surveyEnd (s : State) (c : ChanId) (i : Fin 4) (r : SurveyRecord) (hu : s.dsu.unitOf c = some i)
      (hf : (s.ch c).state ≠ .free) : Act s (s.endRunning c i r)
  | cancel (s : State) (c : ChanId) (r : SurveyRecord) (hr : cancelRecord s c = some r)
      (hf : (s.ch c).state ≠ .free) : Act s ((s.recordSurvey c r).withdrawSurvey c)
  | quiesce (s : State) (c : ChanId) (h : (s.ch c).state = .opened) :
      Act s ((s.cancelSurvey c).modCh c quiescedChannel)
  | bind (s : State) (c : ChanId) (sl : SlotId) (k : Nat) (hf : (s.ch c).state = .free) (hs : s.slotOwner sl = none)
      (ht : (s.profile k).taps ≤ s.freeTaps) (hp : (s.profile k).pagesNeeded ≤ s.freePages.length) :
      Act s (s.admitCall c sl (s.profile k))
  | release (s : State) (c : ChanId) (hf : (s.ch c).state ≠ .free) : Act s (s.release c)
  | reset (s : State) (revert : Bool) : Act s (s.resetPart revert)
  | powerUp (s : State) (low : Bool) : Act s (s.powerUp.setNrst low)
  | profile (s : State) (k : Nat) (p : Profile) (h : badField p = none) : Act s (s.setProfile k p)
  | lock (s : State) : Act s { s with lock := true }
  | snapshot (s : State) (n : Snapshot) : Act s { s with snapshot := n }
  | clear (s : State) : Act s s.clearCounters
  | choice (s : State) (n : Nat) : Act s { s with choice := n }

/-- A chain of acts. -/
abbrev Acts : State → State → Prop := Relation.ReflTransGen Act

/-- A chain of acts that leaves one channel's state and the reply queue's length as they were. -/
structure Kept (c : ChanId) (s t : State) : Prop where
  acts : Acts s t
  state : (t.ch c).state = (s.ch c).state
  replies : t.link.replies.length = s.link.replies.length

theorem Kept.refl (c : ChanId) (s : State) : Kept c s s := ⟨.refl, rfl, rfl⟩

theorem Kept.trans {c : ChanId} {s t u : State} (h : Kept c s t) (k : Kept c t u) : Kept c s u :=
  ⟨h.acts.trans k.acts, k.state.trans h.state, k.replies.trans h.replies⟩

theorem acts_chan {s : State} {c : ChanId} {f : Channel → Channel} (h : ChanStep (s.ch c) (f (s.ch c))) :
    Acts s (s.modCh c f) := .single (.chan s c _ h)

/-! ### What a channel step leaves alone -/

theorem chooseSample_frame (ch : Channel) (b : Bool) :
    (chooseSample ch b).channel.state = ch.state ∧ (chooseSample ch b).channel.slot = ch.slot
      ∧ (chooseSample ch b).channel.params = ch.params ∧ (chooseSample ch b).channel.pages = ch.pages
      ∧ (chooseSample ch b).channel.survey = ch.survey ∧ (chooseSample ch b).channel.echo = ch.echo
      ∧ (chooseSample ch b).channel.quality = ch.quality ∧ (chooseSample ch b).channel.cursors = ch.cursors
      ∧ (chooseSample ch b).channel.writeIndex = ch.writeIndex ∧ (chooseSample ch b).channel.heldRx = ch.heldRx := by
  unfold chooseSample chooseQueue
  split
  · simp [chooseProbe]
  · split <;> (try split) <;> (try split) <;> simp [starve, popSample]

/-- A step of a power estimator keeps it within 0..32767 (R10). -/
theorem powerStep_le (p : Nat) (v : Sample) (h : p ≤ 32767) : powerStep p v ≤ 32767 := by
  unfold powerStep
  omega

@[simp] theorem adaptFrom_length (e : Sample) (q : Nat) (x : Nat → Sample) (k : Nat) (l : List Sample) :
    (adaptFrom e q x k l).length = l.length := by
  induction l generalizing k with
  | nil => rfl
  | cons a l ih => simp [adaptFrom, ih]

/-- The update of a matched entry changes the eq taps, P_err and the error count alone (R137). -/
theorem applyErrors_frame (q : Nat) (ch : Channel) (ds ys : List Sample) (ps : List Nat) :
    ∃ (taps : List Sample) (pErr n : Nat), taps.length = ch.eq.taps.length
      ∧ (ch.quality.pErr ≤ 32767 → pErr ≤ 32767) ∧ (ch.quality.errorCount ≤ 64 → n ≤ 64) ∧
      applyErrors q ch ds ys ps =
        { ch with eq := { ch.eq with taps := taps }, quality := { ch.quality with pErr := pErr, errorCount := n } } := by
  have base : ∃ (taps : List Sample) (pErr n : Nat), taps.length = ch.eq.taps.length
      ∧ (ch.quality.pErr ≤ 32767 → pErr ≤ 32767) ∧ (ch.quality.errorCount ≤ 64 → n ≤ 64) ∧
      ch =
        { ch with eq := { ch.eq with taps := taps }, quality := { ch.quality with pErr := pErr, errorCount := n } } :=
    ⟨ch.eq.taps, ch.quality.pErr, ch.quality.errorCount, rfl, id, id, rfl⟩
  induction ds generalizing ch ys ps with
  | nil => simpa [applyErrors] using base
  | cons d ds ih =>
    cases ys with
    | nil => simpa [applyErrors] using base
    | cons y ys =>
      cases ps with
      | nil => simpa [applyErrors] using base
      | cons p ps =>
        obtain ⟨taps, pe, n, hl, hp, hn, h⟩ := ih (applyError q ch d y p) ys ps
          ⟨_, _, _, rfl, id, id, rfl⟩
        refine ⟨taps, pe, n, ?_, ?_, ?_, by rw [applyErrors, h]; rfl⟩
        · rw [hl]; simp [applyError]
        · exact fun hle => hp (powerStep_le _ _ hle)
        · exact fun _ => hn (by simp only [applyError, Config.errorsMeasured]; omega)

/-- A matched entry's own effect changes the eq taps, P_err, the error count and the counters alone (R136). -/
theorem consumeEntry_frame (ch : Channel) (e : PendingEntry) (erase : Bool) (refs : List Sample) :
    ∃ (taps : List Sample) (pErr n : Nat) (k : ChanCounters), taps.length = ch.eq.taps.length
      ∧ (ch.quality.pErr ≤ 32767 → pErr ≤ 32767) ∧ (ch.quality.errorCount ≤ 64 → n ≤ 64) ∧
      consumeEntry ch e erase refs =
        { ch with
          eq := { ch.eq with taps := taps }
          quality := { ch.quality with pErr := pErr, errorCount := n }
          counters := k } := by
  unfold consumeEntry
  split
  · exact ⟨ch.eq.taps, ch.quality.pErr, ch.quality.errorCount, _, rfl, id, id, rfl⟩
  · split
    · obtain ⟨taps, pe, n, hl, hp, hc, h⟩ :=
        applyErrors_frame (12 + eqShift ch) ch refs e.outputs e.positions
      exact ⟨taps, pe, n, { ch.counters with refsApplied := ch.counters.refsApplied + 1 }, hl, hp, hc, by rw [h]⟩
    · exact ⟨ch.eq.taps, ch.quality.pErr, ch.quality.errorCount, ch.counters, rfl, id, id, rfl⟩

/-- A match removes the entry and every older one, and changes the eq taps, P_err, the error count and the counters
besides (R136). -/
theorem matchRef_frame (ch : Channel) (seq : Word) (erase : Bool) (refs : List Sample) :
    ∃ (taps : List Sample) (pErr n : Nat) (k : ChanCounters) (newer : List PendingEntry),
      taps.length = ch.eq.taps.length ∧ (ch.quality.pErr ≤ 32767 → pErr ≤ 32767)
      ∧ (ch.quality.errorCount ≤ 64 → n ≤ 64) ∧ newer <:+ ch.eq.pendingRefs ∧
      matchRef ch seq erase refs =
        { ch with
          eq := { ch.eq with taps := taps, pendingRefs := newer }
          quality := { ch.quality with pErr := pErr, errorCount := n }
          counters := k } := by
  have hs : fromEntry seq ch.eq.pendingRefs <:+ ch.eq.pendingRefs := List.dropWhile_suffix _
  unfold matchRef
  split
  · exact ⟨ch.eq.taps, ch.quality.pErr, ch.quality.errorCount, ch.counters, _, rfl, id, id, List.suffix_rfl, rfl⟩
  · rename_i e newer hf
    have hn : newer <:+ ch.eq.pendingRefs := (List.suffix_cons e newer).trans (hf ▸ hs)
    obtain ⟨taps, pe, n, k, hl, hp, hc, h⟩ := consumeEntry_frame
      { ch with
        eq := { ch.eq with pendingRefs := newer }
        counters :=
          { ch.counters with
            refsMissed :=
              ch.counters.refsMissed + BitVec.ofNat 32 (olderEntries seq ch.eq.pendingRefs).length } }
      e erase refs
    exact ⟨taps, pe, n, k, newer, hl, hp, hc, hn, h⟩

/-- A channel step keeps the channel's slot, params, pages, survey and cursors' channel, and whether it is FREE. -/
theorem ChanStep.frame {ch x : Channel} (h : ChanStep ch x) :
    (x.state = .free ↔ ch.state = .free) ∧ x.slot = ch.slot ∧ x.params = ch.params ∧ x.pages = ch.pages
      ∧ x.survey = ch.survey := by
  cases h with
  | transmit b => have := chooseSample_frame ch b; simp [this]
  | append xs h => simp [appendSamples]
  | receive rx => unfold receiveStage; split <;> simp [slipChannel, countSlipTurn]
  | update x r => unfold echoUpdate; split <;> simp
  | countDown => simp [countTraining]
  | expire => unfold expiredTraining; dsimp only; split <;> simp [takeCheckpoint]
  | extend => simp [takenExtension]
  | counters => simp
  | apply => simp [applyResult]
  | filter => simp [eqStage, powerStage]
  | complete => unfold makeEntry; split <;> simp [consumeSeq]
  | diverge => unfold divergedChannel; dsimp only; split <;> simp [loadCheckpoint]
  | strikes => simp [setStrikes]
  | arms => simp
  | emptied => simp [emptyBlock]
  | ended => simp [endTurn]
  | drainTick => simp
  | halt h => simp [h]
  | expireRefs => simp
  | matched seq erase refs =>
    obtain ⟨_, _, _, _, _, _, _, _, _, h⟩ := matchRef_frame ch seq erase refs
    rw [h]; simp
  | setEcho => simp [setEchoMode]
  | setExt => simp [setExtension]
  | delay => simp [setDelay]
  | eqMode => simp
  | cursor => simp [moveCursor, setCursor]
  | taps set taps values start ht => cases set <;> simp [setTaps]
  | checkpoint => simp [takeCheckpoint]
  | restore => simp [loadCheckpoint]

end Sys2Proof.Laws
end

