-- ==== Sys2Proof/Laws/Arith.lean ====
section
/-! SUPPORT. What the searches behind the survey figures say, each once (R15). -/

namespace Sys2Proof.Laws
open Sys2Proof.Machine

/-- The peak search answers the best so far when no sum is larger, and otherwise the first of the largest sums. -/
theorem peakFrom_spec (sums : List Int) (lag : Nat) (best : Nat × Nat) :
    (peakFrom lag sums best = best ∧ ∀ k, k < sums.length → (sums.getD k 0).natAbs ≤ best.2)
      ∨ ∃ j, j < sums.length ∧ peakFrom lag sums best = (lag + 4 * j, (sums.getD j 0).natAbs)
          ∧ best.2 < (sums.getD j 0).natAbs
          ∧ (∀ k, k < sums.length → (sums.getD k 0).natAbs ≤ (sums.getD j 0).natAbs)
          ∧ ∀ k, k < j → (sums.getD k 0).natAbs < (sums.getD j 0).natAbs := by
  induction sums generalizing lag best with
  | nil => exact .inl ⟨rfl, fun k h => absurd h (Nat.not_lt_zero k)⟩
  | cons sum sums ih =>
    rw [peakFrom]
    by_cases hb : best.2 < sum.natAbs
    · rw [if_pos hb]
      right
      obtain ⟨h, hall⟩ | ⟨j, hj, h, hlt, hall, hfirst⟩ := ih (lag + 4) (lag, sum.natAbs)
      · refine ⟨0, Nat.succ_pos _, by simpa using h, by simpa using hb, fun k hk => ?_,
          fun k hk => absurd hk (Nat.not_lt_zero k)⟩
        cases k with
        | zero => exact le_refl _
        | succ k => simpa using hall k (by simpa using hk)
      · refine ⟨j + 1, by simpa using hj, by rw [h]; simp; omega, by simp at hlt ⊢; omega, fun k hk => ?_, fun k hk => ?_⟩
        · cases k with
          | zero => simp at hlt ⊢; omega
          | succ k => simpa using hall k (by simpa using hk)
        · cases k with
          | zero => simpa using hlt
          | succ k => simpa using hfirst k (by omega)
    · rw [if_neg hb]
      obtain ⟨h, hall⟩ | ⟨j, hj, h, hlt, hall, hfirst⟩ := ih (lag + 4) best
      · refine .inl ⟨h, fun k hk => ?_⟩
        cases k with
        | zero => simpa using hb
        | succ k => simpa using hall k (by simpa using hk)
      · refine .inr ⟨j + 1, by simpa using hj, by rw [h]; simp; omega, by simpa using hlt, fun k hk => ?_, fun k hk => ?_⟩
        · cases k with
          | zero => simp at hb hlt ⊢; omega
          | succ k => simpa using hall k (by simpa using hk)
        · cases k with
          | zero => simp at hb hlt ⊢; omega
          | succ k => simpa using hfirst k (by omega)

/-- The second search answers the largest of the best so far and the sums more than 8 from the peak lag. -/
theorem secondFrom_spec (peak : Nat) (sums : List Int) (lag best : Nat) :
    let far k := lag + 4 * k + 8 < peak ∨ peak + 8 < lag + 4 * k
    let second := secondFrom peak lag sums best
    best ≤ second ∧ (∀ k, k < sums.length → far k → (sums.getD k 0).natAbs ≤ second)
      ∧ (second = best ∨ ∃ k, k < sums.length ∧ far k ∧ second = (sums.getD k 0).natAbs) := by
  induction sums generalizing lag best with
  | nil => exact ⟨le_refl _, fun k h => absurd h (Nat.not_lt_zero k), .inl rfl⟩
  | cons sum sums ih =>
    dsimp only
    rw [secondFrom]
    by_cases hn : lag + 8 < peak ∨ peak + 8 < lag
    · rw [if_pos hn]
      obtain ⟨h1, h2, h3⟩ := ih (lag + 4) (max best sum.natAbs)
      refine ⟨(Nat.le_max_left _ _).trans h1, fun k hk hfar => ?_, ?_⟩
      · cases k with
        | zero => exact (Nat.le_max_right _ _).trans h1
        | succ k => exact h2 k (by simpa using hk) (by omega)
      · obtain h3 | ⟨k, hk, hfar, h3⟩ := h3
        · obtain hm | hm := max_choice best sum.natAbs
          · exact .inl (h3.trans hm)
          · exact .inr ⟨0, Nat.succ_pos _, by simpa using hn, h3.trans hm⟩
        · exact .inr ⟨k + 1, by simpa using hk, by omega, h3⟩
    · rw [if_neg hn]
      obtain ⟨h1, h2, h3⟩ := ih (lag + 4) best
      refine ⟨h1, fun k hk hfar => ?_, ?_⟩
      · cases k with
        | zero => exact absurd (by simpa using hfar) hn
        | succ k => exact h2 k (by simpa using hk) (by omega)
      · obtain h3 | ⟨k, hk, hfar, h3⟩ := h3
        · exact .inl h3
        · exact .inr ⟨k + 1, by simpa using hk, by omega, h3⟩

end Sys2Proof.Laws
end

