-- ==== Sys2Proof/Laws/TurnActs.lean ====
section
/-! SUPPORT. The work of a frame end, of an acquisition and of a loss as chains of acts. -/

namespace Sys2Proof.Laws
open Sys2Proof.Machine Sys2Proof.Safety

theorem chanByte_inj {c d : ChanId} (h : chanByte c = chanByte d) : c = d := by
  have h' := congrArg BitVec.toNat h
  simp only [chanByte, BitVec.toNat_ofNat] at h'
  have hc := c.isLt
  have hd := d.isLt
  apply Fin.ext
  omega

theorem deviceByte_ne (c : ChanId) : deviceByte ≠ chanByte c := by
  intro h
  have h' := congrArg BitVec.toNat h
  have hc := c.isLt
  simp only [chanByte, BitVec.toNat_ofNat, deviceByte] at h'
  simp at h'
  omega

/-! ### The arbiter -/

/-- What a run of the correlator arbiter leaves: all but the survey unit and each channel's survey state and probe
(R146). -/
structure Granted (s t : State) : Prop where
  rest : t = { s with dsu := t.dsu, channels := t.channels }
  chans : ∀ d : ChanId, ∃ sv p, t.ch d = { s.ch d with survey := sv, tx := { (s.ch d).tx with probe := p } }

theorem Granted.refl (s : State) : Granted s s := ⟨rfl, fun d => ⟨(s.ch d).survey, (s.ch d).tx.probe, rfl⟩⟩

theorem Granted.trans {s t u : State} (h : Granted s t) (k : Granted t u) : Granted s u := by
  refine ⟨?_, fun d => ?_⟩
  · rw [k.rest, h.rest]
  · obtain ⟨a, p, hd⟩ := h.chans d
    obtain ⟨b, q, kd⟩ := k.chans d
    exact ⟨b, q, by rw [kd, hd]⟩

theorem Granted.unit (s : State) (i : Fin 4) (k : Option Correlator) : Granted s (s.setUnit i k) :=
  ⟨rfl, fun d => ⟨(s.ch d).survey, (s.ch d).tx.probe, rfl⟩⟩

theorem Granted.queueOnly (s : State) (q : List SurveyEntry) : Granted s { s with dsu := { s.dsu with queue := q } } :=
  ⟨rfl, fun d => ⟨(s.ch d).survey, (s.ch d).tx.probe, rfl⟩⟩

theorem Granted.grant (s : State) (i : Fin 4) (e : SurveyEntry) : Granted s (s.grant i e) := by
  refine ⟨rfl, fun d => ?_⟩
  by_cases h : d = e.channel
  · subst h
    exact ⟨.running, if e.probe then BitVec.allOnes 15 else (s.ch e.channel).tx.probe, by simp [State.grant]⟩
  · exact ⟨(s.ch d).survey, (s.ch d).tx.probe, by simp [State.grant, h]⟩

theorem Granted.upTo (n : Nat) (s : State) : Granted s (s.grantUpTo n) := by
  induction n generalizing s with
  | zero => exact .refl s
  | succ n ih =>
    unfold State.grantUpTo
    split
    · exact ((Granted.queueOnly s _).trans (.grant _ _ _)).trans (ih _)
    · exact .refl s

theorem granted_runArbiter (s : State) : Granted s s.runArbiter := .upTo 4 s

theorem Granted.state {s t : State} (h : Granted s t) (d : ChanId) :
    (t.ch d).state = (s.ch d).state := by
  obtain ⟨_, _, e⟩ := h.chans d
  rw [e]

theorem Granted.link {s t : State} (h : Granted s t) : t.link = s.link := by rw [h.rest]

theorem Granted.pending {s t : State} (h : Granted s t) : t.pending = s.pending := by rw [h.rest]

/-! ### Channel steps as kept chains -/

theorem kept_chan {s : State} {c : ChanId} {f : Channel → Channel} (h : ChanStep (s.ch c) (f (s.ch c)))
    (hs : (f (s.ch c)).state = (s.ch c).state) : Kept c s (s.modCh c f) :=
  ⟨acts_chan h, by simpa using hs, rfl⟩

theorem kept_chanAll (s : State) (c : ChanId) {f : Channel → Channel} (h : ∀ ch, ChanStep ch (f ch))
    (hs : ∀ ch, (f ch).state = ch.state) : Kept c s (s.modCh c f) := kept_chan (h _) (hs _)

theorem kept_raise {s : State} {c : ChanId} (body : NoticeBody) (h : (s.ch c).state ≠ .free) :
    Kept c s (s.raiseCh c body) :=
  ⟨.single (.raised s _ body fun _ hd => chanByte_inj hd ▸ h), rfl, rfl⟩

theorem kept_raiseOpt {s : State} {c : ChanId} (body : Option NoticeBody) (h : (s.ch c).state ≠ .free) :
    Kept c s (s.raiseOpt c body) := by
  cases body with
  | none => exact .refl c s
  | some b => exact kept_raise b h

theorem kept_count (s : State) (c : ChanId) (f : ChanCounters → ChanCounters) : Kept c s (s.count c f) :=
  kept_chan (.counters _ _) rfl

theorem kept_page (c : ChanId) (s : State) (a : Nat) (x : Sample) :
    Kept c s { s with pageMem := memWrite s.pageMem a x } := ⟨.single (.page s a x), rfl, rfl⟩

theorem kept_setDrive (c : ChanId) (s : State) (sl : SlotId) (x : Sample) : Kept c s (s.setDrive sl x) :=
  ⟨.single (.highway s _ rfl), rfl, rfl⟩

theorem kept_transmitStage {s : State} {c : ChanId} (sl : SlotId) (h : (s.ch c).state ≠ .free) :
    Kept c s (transmitStage s c sl) := by
  unfold transmitStage
  have h1 : Kept c s (s.setCh c (chooseSample (s.ch c) (s.dsu.probing c)).channel) :=
    ⟨.single (.chan s c _ (.transmit _ _)), by simp [(chooseSample_frame _ _).1], rfl⟩
  have h2 := h1.trans (kept_raiseOpt (chooseSample (s.ch c) (s.dsu.probing c)).notice (by rw [h1.state]; exact h))
  exact (h2.trans (kept_page c _ _ _)).trans (kept_setDrive c _ sl _)

theorem kept_trainStep {s : State} {c : ChanId} (h : (s.ch c).state ≠ .free) (hm : (s.ch c).echo.mode = .train) :
    Kept c s (s.trainStep c) := by
  unfold State.trainStep State.trainingAtZero State.expireTraining
  dsimp only
  split
  · rename_i hz
    split
    · rename_i he
      simp only [State.modCh_ch_same, State.modCh_modCh] at *
      have h1 : Kept c s (s.modCh c fun ch => expiredTraining (countTraining ch)) :=
        kept_chan (f := fun ch => expiredTraining (countTraining ch)) (ChanStep.expire _ hm he)
          (by unfold expiredTraining; dsimp only; split <;> rfl)
      exact (h1.trans (kept_raise _ (by rw [h1.state]; exact h))).trans (kept_count _ _ _)
    · rename_i n he
      simp only [State.modCh_ch_same, State.modCh_modCh] at *
      exact kept_chan (f := fun ch => takenExtension (countTraining ch) n) (ChanStep.extend _ n hm he) rfl
  · rename_i hz
    simp only [State.modCh_ch_same] at hz
    exact kept_chan (.countDown _ hm hz) rfl

theorem kept_echoStage {s : State} {c : ChanId} (x : Nat → Sample) (r : Sample) (h : (s.ch c).state ≠ .free) :
    Kept c s (echoStage s c x r) := by
  unfold echoStage
  have h1 : Kept c s (s.modCh c fun ch => echoUpdate ch x r) :=
    kept_chan (.update _ x r) (by unfold echoUpdate; split <;> rfl)
  dsimp only
  split
  · rename_i hm
    refine h1.trans (kept_trainStep (by rw [h1.state]; exact h) ?_)
    simp only [State.modCh_ch_same, echoUpdate]
    split <;> exact hm
  · exact h1

/-! ### Surveys -/

theorem recordSurvey_state (s : State) (c d : ChanId) (r : SurveyRecord) :
    ((s.recordSurvey c r).ch d).state = (s.ch d).state := by
  by_cases h : d = c
  · subst h; simp [State.recordSurvey]
  · simp [State.recordSurvey, h]

theorem endRunning_link (s : State) (c : ChanId) (i : Fin 4) (r : SurveyRecord) :
    (s.endRunning c i r).link = (s.recordSurvey c r).link := by
  unfold State.endRunning
  rw [(granted_runArbiter _).link]
  rfl

theorem endRunning_state (s : State) (c d : ChanId) (i : Fin 4) (r : SurveyRecord) :
    ((s.endRunning c i r).ch d).state = (s.ch d).state := by
  unfold State.endRunning
  rw [(granted_runArbiter _).state]
  exact recordSurvey_state s c d r

theorem kept_endRunning {s : State} {c : ChanId} {i : Fin 4} (r : SurveyRecord) (hu : s.dsu.unitOf c = some i)
    (h : (s.ch c).state ≠ .free) : Kept c s (s.endRunning c i r) :=
  ⟨.single (.surveyEnd s c i r hu h), endRunning_state s c c i r, by rw [endRunning_link]; rfl⟩

theorem kept_endWindow {s : State} {c : ChanId} {i : Fin 4} (k : Correlator) (hu : s.dsu.unitOf c = some i)
    (h : (s.ch c).state ≠ .free) : Kept c s (s.endWindow c i k) := by
  unfold State.endWindow
  dsimp only
  have h1 : Kept c s (s.modCh c fun ch =>
      match (windowRecord (s.ch c) k).appliedDelay, (windowRecord (s.ch c) k).figures with
      | some _, some f => applyResult ch f.peakLag
      | _, _ => ch) := by
    split
    · exact kept_chan (.apply _ _) rfl
    · rw [State.modCh, State.setCh_ch_self]; exact .refl c s
  exact h1.trans (kept_endRunning _ hu (by rw [h1.state]; exact h))

theorem kept_unit {s : State} {i : Fin 4} {k k' : Correlator} (c : ChanId) (h : s.dsu.unit i = some k)
    (he : k'.entry = k.entry) (hk : UnitOk k → UnitOk k') : Kept c s (s.setUnit i (some k')) :=
  ⟨.single (.unit s i k k' h he hk), rfl, rfl⟩

@[simp] theorem addProducts_length (x : Nat → Sample) (r : Sample) (lag : Nat) (sums : List Int) :
    (addProducts x r lag sums).length = sums.length := by
  induction sums generalizing lag with
  | nil => rfl
  | cons a l ih => simp [addProducts, ih]

theorem unitOk_leadInTurn {k : Correlator} (h : UnitOk k) (hp : k.phase = .leadIn) : UnitOk (leadInTurn k) := by
  obtain ⟨h1, h2, h3, h4, h5⟩ := h
  obtain ⟨h6, h7⟩ := h5 hp
  unfold leadInTurn
  dsimp only [Config.leadInTurns]
  split
  · rename_i he
    exact ⟨h1, by simp only [leadInDone]; omega, by simp [leadInDone], h4, by simp [leadInDone]⟩
  · rename_i he
    exact ⟨h1, by dsimp only; omega, h3, h4, fun _ => ⟨h6, by dsimp only; omega⟩⟩

theorem unitOk_windowTurn {k : Correlator} (h : UnitOk k) (hp : k.phase = .window) (x : Nat → Sample) (r : Sample)
    (hw : (windowTurn k x r).window ≠ 1024) : UnitOk (windowTurn k x r) := by
  obtain ⟨h1, h2, h3, h4, h5⟩ := h
  refine ⟨by simp [windowTurn, h1], h2, ?_, h4, by simp [windowTurn, hp]⟩
  simp only [windowTurn] at *
  omega

theorem unitOk_restart {k : Correlator} (h : UnitOk k) (hp : k.phase = .window) (n : Nat) (hn : n ≤ 2) :
    UnitOk { restartWindow k with restarts := n } := by
  obtain ⟨h1, h2, h3, h4, h5⟩ := h
  exact ⟨by simp [restartWindow, h1], h2, by simp [restartWindow], hn, by simp [restartWindow, hp]⟩

theorem kept_surveyStage {s : State} {c : ChanId} (x : Nat → Sample) (r : Sample) (slipped : Bool)
    (h : (s.ch c).state ≠ .free) : Kept c s (surveyStage s c x r slipped) := by
  unfold surveyStage
  split
  · exact .refl c s
  · rename_i i hu
    split
    · exact .refl c s
    · rename_i k hk
      unfold surveyTurn
      split
      · rename_i hp
        exact kept_unit c hk (by unfold leadInTurn; dsimp only; split <;> rfl) fun ho => unitOk_leadInTurn ho hp
      · rename_i hp
        split
        · dsimp only
          split
          · rename_i hr
            exact kept_unit c hk rfl fun ho =>
              unitOk_restart ho hp _ (by simp only [Config.restartLimit] at hr; omega)
          · exact kept_endRunning _ hu h
        · dsimp only
          split
          · exact kept_endWindow _ hu h
          · rename_i hw
            exact kept_unit c hk rfl fun ho => unitOk_windowTurn ho hp x r hw

/-! ### The block boundary and the turn -/

/-- The context after a completed block, with the counters its EQ_BLOCK's drop leaves (R46, R129, R132). -/
def completedChannel (ch : Channel) (dropped : Bool) : Channel :=
  let ch' := makeEntry (consumeSeq ch) (entryOf ch)
  if dropped then { ch' with counters := { ch'.counters with eqBlocksDropped := ch'.counters.eqBlocksDropped + 1 } }
  else ch'

theorem completedChannel_state (ch : Channel) (dropped : Bool) : (completedChannel ch dropped).state = ch.state := by
  unfold completedChannel makeEntry
  dsimp only
  split <;> split <;> simp [consumeSeq]

theorem completedChannel_step (ch : Channel) (dropped : Bool) (h : ch.eq.outputs.length = ch.params.blockSize) :
    ChanStep ch (completedChannel ch dropped) := by
  have hs := ChanStep.complete ch (completedChannel ch dropped).counters h
  have he : completedChannel ch dropped =
      { makeEntry (consumeSeq ch) (entryOf ch) with counters := (completedChannel ch dropped).counters } := by
    unfold completedChannel
    dsimp only
    split <;> rfl
  rw [he]
  exact hs

/-- A completed block's EQ_BLOCK joins the queue while it holds fewer than 64 and is dropped otherwise (R129). -/
theorem completeBlock_eq (s : State) (c : ChanId) :
    completeBlock s c =
      if s.link.dataQueue.length < 64 then
        (s.modCh c fun ch => completedChannel ch false).modLink fun l =>
          { l with dataQueue := l.dataQueue ++ [blockOf c (s.ch c)] }
      else s.modCh c fun ch => completedChannel ch true := by
  unfold completeBlock State.offerBlock
  dsimp only
  by_cases hq : s.link.dataQueue.length < 64
  · have hq' : (s.modCh c consumeSeq).link.dataQueue.length < Config.dataQueueMax := hq
    rw [if_pos hq', if_pos hq]
    simp [State.modCh, State.setCh, State.modLink, completedChannel, State.ch]
  · have hq' : ¬ (s.modCh c consumeSeq).link.dataQueue.length < Config.dataQueueMax := hq
    rw [if_neg hq', if_neg hq]
    have hm : ∀ ch k, makeEntry { consumeSeq ch with counters := k } (entryOf ch) =
        { makeEntry (consumeSeq ch) (entryOf ch) with
          counters :=
            { k with refsMissed :=
                if ch.eq.mode ≠ .bypass ∧ ch.params.refWindow ≤ ch.eq.pendingRefs.length then k.refsMissed + 1
                else k.refsMissed } } := by
      intro ch k
      unfold makeEntry
      by_cases h1 : ch.eq.mode = .bypass
      · simp [consumeSeq, h1]
      · by_cases h2 : ch.params.refWindow ≤ ch.eq.pendingRefs.length <;> simp [consumeSeq, h1, h2]
    have hk : ∀ ch, (makeEntry (consumeSeq ch) (entryOf ch)).counters =
        { ch.counters with refsMissed :=
            if ch.eq.mode ≠ .bypass ∧ ch.params.refWindow ≤ ch.eq.pendingRefs.length then ch.counters.refsMissed + 1
            else ch.counters.refsMissed } := by
      intro ch
      unfold makeEntry
      by_cases h1 : ch.eq.mode = .bypass
      · simp [consumeSeq, h1]
      · by_cases h2 : ch.params.refWindow ≤ ch.eq.pendingRefs.length <;> simp [consumeSeq, h1, h2]
    simp only [State.count, blockOf, State.modCh_modCh]
    simp only [State.modCh]
    congr 1
    have := hm (s.ch c) { (consumeSeq (s.ch c)).counters with
      eqBlocksDropped := (consumeSeq (s.ch c)).counters.eqBlocksDropped + 1 }
    rw [this]
    simp only [completedChannel, hk, if_true]
    rfl

theorem kept_completeBlock {s : State} {c : ChanId} (ho : (s.ch c).eq.outputs.length = (s.ch c).params.blockSize) :
    Kept c s (completeBlock s c) := by
  rw [completeBlock_eq]
  split
  · rename_i hq
    have h1 : Kept c s (s.modCh c fun ch => completedChannel ch false) :=
      kept_chan (completedChannel_step _ _ ho) (completedChannel_state _ _)
    refine h1.trans ⟨.single (.link _ _ id id ?_ (.refl _) id id), rfl, rfl⟩
    intro _
    simp only [State.modCh_link, List.length_append, List.length_singleton]
    omega
  · exact kept_chan (completedChannel_step _ _ ho) (completedChannel_state _ _)

theorem divergedChannel_state (ch : Channel) : (divergedChannel ch).state = ch.state := by
  unfold divergedChannel
  dsimp only
  split <;> rfl

theorem kept_diverge {s : State} {c : ChanId} (h : (s.ch c).state ≠ .free) : Kept c s (s.diverge c) := by
  unfold State.diverge
  have h1 : Kept c s (s.modCh c divergedChannel) := kept_chan (.diverge _) (divergedChannel_state _)
  exact (h1.trans (kept_raise _ (by rw [h1.state]; exact h))).trans (kept_count _ _ _)

theorem kept_divergenceCheck {s : State} {c : ChanId} (h : (s.ch c).state ≠ .free) :
    Kept c s (divergenceCheck s c) := by
  have key : ∀ n, Kept c s (if 3 ≤ n then s.diverge c else s.modCh c fun ch => setStrikes ch n) := by
    intro n
    split
    · exact kept_diverge h
    · exact kept_chan (f := fun ch => setStrikes ch n) (.strikes _ _ (by omega)) rfl
  exact key _

theorem kept_qualityCheck {s : State} {c : ChanId} (h : (s.ch c).state ≠ .free) : Kept c s (qualityCheck s c) := by
  unfold qualityCheck
  dsimp only
  have h1 := kept_chan (s := s) (c := c)
    (f := fun ch' => { ch' with quality :=
      { ch'.quality with erleArm := (erleCrossing (s.ch c)).1, mseArm := (mseCrossing (s.ch c)).1 } }) (.arms _ _ _) rfl
  split
  · exact h1.trans (kept_raise _ (by rw [h1.state]; exact h))
  · exact h1

theorem kept_boundaryIfFull {s : State} {c : ChanId} (h : (s.ch c).state ≠ .free) :
    Kept c s (boundaryIfFull s c) := by
  unfold boundaryIfFull
  split
  · rename_i ho
    unfold boundary
    have h1 := kept_completeBlock ho
    have h2 := h1.trans (kept_divergenceCheck (by rw [h1.state]; exact h))
    have h3 := h2.trans (kept_qualityCheck (by rw [h2.state]; exact h))
    exact h3.trans (kept_chanAll _ c .emptied fun _ => rfl)
  · exact .refl c s

theorem kept_filterStages {s : State} {c : ChanId} (rx : Sample) (slipped : Bool) (h : (s.ch c).state ≠ .free) :
    Kept c s (filterStages s c rx slipped) := by
  have key : ∀ (x : Nat → Sample) (r : Sample),
      Kept c s ((boundaryIfFull ((surveyStage (echoStage s c x r) c x r slipped).modCh c
        fun ch => eqStage (powerStage ch rx r) r) c).modCh c endTurn) := by
    intro x r
    have h4 := kept_echoStage x r h
    have h5 := h4.trans (kept_surveyStage x r slipped (by rw [h4.state]; exact h))
    have h7 := h5.trans (kept_chanAll _ c (f := fun ch => eqStage (powerStage ch rx r) r) (.filter · rx r) fun _ => rfl)
    have h8 := h7.trans (kept_boundaryIfFull (by rw [h7.state]; exact h))
    exact h8.trans (kept_chanAll _ c .ended fun _ => rfl)
  exact key _ _

/-- One sample turn is a chain of acts that leaves the channel's state (R43). -/
theorem kept_turn {s : State} {c : ChanId} (sl : SlotId) (rx : Option Sample) (h : (s.ch c).state ≠ .free) :
    Kept c s (turn s c sl rx) := by
  unfold turn
  dsimp only
  have h2 := kept_transmitStage sl h
  have h3 := h2.trans (kept_chanAll _ c (f := fun ch => receiveStage ch rx) (.receive · rx)
    fun ch => by unfold receiveStage; dsimp only; split <;> rfl)
  exact h3.trans (kept_filterStages _ _ (by rw [h3.state]; exact h))

/-! ### Drains, and the work of every channel -/

theorem acts_endDrain {s : State} {c : ChanId} (cause : DrainCause) (n : Nat) (h : (s.ch c).state = .draining)
    (hp : (s.ch c).eq.pendingRefs = []) : Acts s (s.endDrain c cause n) := by
  unfold State.endDrain
  refine (acts_chan (.halt _ h hp)).trans (.single (.raised _ _ _ fun d hd => ?_))
  rw [← chanByte_inj hd]
  simp

theorem acts_endDrainExpiring {s : State} {c : ChanId} (cause : DrainCause) (h : (s.ch c).state = .draining) :
    Acts s (s.endDrainExpiring c cause) := by
  unfold State.endDrainExpiring
  refine (acts_chan (.expireRefs _ _)).trans (acts_endDrain _ _ ?_ ?_)
  · simpa using h
  · simp

theorem acts_drainFrame {s : State} {c : ChanId} (h : (s.ch c).state = .draining) : Acts s (drainFrame s c) := by
  unfold drainFrame State.timeoutDrain
  dsimp only
  have h1 : Acts s (s.modCh c fun ch => { ch with drainCount := ch.drainCount + 1 }) := acts_chan (.drainTick _)
  split
  · exact h1.trans (acts_endDrainExpiring _ (by simpa using h))
  · exact h1

theorem acts_channelFrame (rx : Option (Vector Sample 64)) (s : State) (c : ChanId) :
    Acts s (channelFrame rx s c) := by
  unfold channelFrame
  split
  · rename_i h
    split
    · exact (kept_turn _ _ (by simp [h])).acts
    · exact .refl
  · rename_i h
    exact acts_drainFrame h
  · exact .refl
  · exact .refl

theorem acts_foldl {f : State → ChanId → State} (h : ∀ s c, Acts s (f s c)) (l : List ChanId) (s : State) :
    Acts s (l.foldl f s) := by
  induction l generalizing s with
  | nil => exact .refl
  | cons c l ih => exact (h s c).trans (ih _)

theorem acts_fixDrive (s : State) : Acts s s.fixDrive := .single (.highway s _ rfl)

theorem acts_channelsAtFrame (s : State) (rx : Option (Vector Sample 64)) : Acts s (s.channelsAtFrame rx) :=
  ((acts_fixDrive s).trans (acts_foldl (acts_channelFrame rx) _ _)).trans (.single (.choice _ _))

/-! ### The highway's events -/

theorem acts_raiseDevice (s : State) (body : NoticeBody) : Acts s (s.raise deviceByte body) :=
  .single (.raised s _ body fun c h => absurd h (deviceByte_ne c))

theorem acts_highway (s : State) (h : Highway) (hm : h.slotMap = s.highway.slotMap) :
    Acts s { s with highway := h } := .single (.highway s h hm)

theorem acts_foundHfs (s : State) (hfs : List Bool) : Acts s (s.foundHfs hfs) := acts_highway s _ rfl

theorem acts_device (s : State) (d : DevCounters) : Acts s { s with device := d } := .single (.device s d)

theorem acts_countFrame (s : State) : Acts s s.countFrame :=
  (acts_highway s { s.highway with bitCount := 0, frameCounter := s.highway.frameCounter + 1 } rfl).trans
    (acts_device _ { s.device with frames := s.device.frames + 1 })

theorem acts_acquire (s : State) : Acts s s.acquire := by
  have h1 := acts_highway s { s.highway with state := .synced } rfl
  have h2 := h1.trans (acts_raiseDevice _ (.highway .sync s.highway.frameCounter))
  exact ((h2.trans (.single (.guarded _))).trans (.single (.restarted _))).trans (acts_fixDrive _)

theorem acts_huntSync (s : State) (count : Nat) : Acts s (s.huntSync count) := by
  have run : ∀ n, Acts s (s.huntRun n) := fun n => acts_highway s _ rfl
  unfold State.huntSync
  split
  · split
    · exact (run 2).trans (acts_acquire _)
    · exact run _
  · exact run _

theorem acts_loseDrain (s : State) (c : ChanId) : Acts s (loseDrain s c) := by
  unfold loseDrain
  split
  · rename_i h
    exact acts_endDrainExpiring _ h
  · exact .refl

theorem acts_loseHighway (s : State) (sync : Bool) : Acts s (s.loseHighway sync) := by
  have h1 := acts_highway s (s.highway.lost sync) rfl
  have h2 := h1.trans (acts_device _ { s.device with syncLosses := s.device.syncLosses + 1 })
  have h3 := h2.trans (acts_raiseDevice _ (.highway .lost s.highway.frameCounter))
  exact (h3.trans (acts_foldl acts_loseDrain _ _)).trans (.single (.choice _ _))

theorem acts_slipFrame (s : State) : Acts s s.slipFrame := by
  have h1 := (acts_countFrame s).trans (acts_device _ { s.countFrame.device with slips := s.countFrame.device.slips + 1 })
  have h2 := h1.trans (acts_raiseDevice _ (.highway .slip s.countFrame.highway.frameCounter))
  exact h2.trans (acts_channelsAtFrame _ _)

end Sys2Proof.Laws
end

