-- ==== Sys2Proof/Laws/CommandActs.lean ====
section
/-! SUPPORT. Every command as a chain of acts: the requests, the link's commands, and the theorem over all of them. -/

namespace Sys2Proof.Laws
open Sys2Proof.Machine Sys2Proof.Safety

/-! ### Small chains -/

theorem acts_settle (s : State) : Acts s s.settle := .single (.link s _ id id id (.refl _) id id)

theorem acts_count (s : State) (c : ChanId) (f : ChanCounters → ChanCounters) : Acts s (s.count c f) :=
  (kept_count s c f).acts

theorem acts_countUnbound (s : State) : Acts s s.countUnbound := acts_device s _

theorem acts_runSurveyCancel {s : State} {c : ChanId} (h : (s.ch c).state ≠ .free) : Acts s (s.cancelSurvey c) := by
  unfold State.cancelSurvey
  split
  · exact .refl
  · rename_i r hr
    exact .single (.cancel s c r hr h)

/-! ### Data blocks -/

theorem payloadWords_length (l : List Byte) : (payloadWords l).length = l.length / 2 := by
  induction l using payloadWords.induct with
  | case1 lo hi rest ih =>
    simp only [payloadWords, List.length_cons, ih]
    omega
  | case2 l h =>
    match l, h with
    | [], _ => rfl
    | [_], _ => simp [payloadWords]
    | a :: b :: rest, h => exact absurd rfl (h a b rest)

theorem acts_arriveTxBlock (s : State) (f : Frame) : Acts s (arriveTxBlock s f) := by
  unfold arriveTxBlock takeTxBlock
  split
  · exact acts_countUnbound s
  · rename_i c _
    dsimp only
    split
    · exact acts_countUnbound s
    · rename_i ho
      split
      · exact acts_count _ _ _
      · rename_i hl
        split
        · exact acts_count _ _ _
        · rename_i hf
          have ho' : (s.ch c).state = .opened := Decidable.of_not_not ho
          have h1 : Acts s (s.setCh c (appendSamples (s.ch c) (payloadWords f.payload)).channel) :=
            .single (.chan s c _ (.append _ _ (by
              rw [payloadWords_length]
              simp only [Config.txQueueMax] at hf
              omega)))
          exact h1.trans (kept_raiseOpt _ (by simp [appendSamples, ho'])).acts

theorem acts_actOnRef {s : State} {c : ChanId} (seq : Word) (erase : Bool) (refs : List Sample) :
    Acts s (actOnRef s c seq erase refs) := by
  unfold actOnRef
  split
  · have h1 : Acts s (s.modCh c fun ch => matchRef ch seq erase refs) :=
      acts_chan (f := fun ch => matchRef ch seq erase refs) (.matched _ seq erase refs)
    unfold State.drainIfEmpty
    split
    · rename_i hd
      exact h1.trans (acts_endDrain _ _ hd.1 hd.2)
    · exact h1
  · exact acts_count _ _ _
  · exact acts_count _ _ _

theorem acts_arriveRefBlock (s : State) (f : Frame) : Acts s (arriveRefBlock s f) := by
  unfold arriveRefBlock takeRefBlock
  split
  · exact acts_countUnbound s
  · dsimp only
    split
    · exact acts_countUnbound s
    · split
      · exact acts_count _ _ _
      · exact acts_actOnRef _ _ _

/-! ### Receiving -/

theorem acts_arriveRequest (s : State) (f : Frame) : Acts s (arriveRequest s f) := by
  unfold arriveRequest
  split
  · rename_i h
    refine .single (.link s _ (fun _ => ?_) id id (.refl _) id id)
    simp only [Config.requestMax] at h
    simp only [List.length_append, List.length_singleton]
    omega
  · exact (acts_device s _).trans (acts_raiseDevice _ _)

theorem acts_dispatch (s : State) (f : Frame) : Acts s (dispatch s f) := by
  unfold dispatch
  split
  · exact acts_arriveTxBlock s f
  · split
    · exact acts_arriveRefBlock s f
    · exact acts_arriveRequest s f

theorem acts_setReceiver (s : State) (st : RxState) (bytes : List Byte)
    (h : ReceiverState s.link → ReceiverState { s.link with rxState := st, rxBytes := bytes, spiBits := [] }) :
    Acts s (s.setReceiver st bytes) := .single (.link s _ id id id (.refl _) (fun _ => Nat.zero_lt_succ 7) h)

theorem acts_hunt (s : State) : Acts s (s.setReceiver .hunt []) :=
  acts_setReceiver s _ _ fun _ => .inl ⟨rfl, rfl⟩

theorem acts_countBadFrame (s : State) : Acts s s.countBadFrame := (acts_device s _).trans (acts_raiseDevice _ _)

theorem acts_rescan (n : Nat) (bytes : List Byte) (s : State) : Acts s (rescan n bytes s) := by
  induction n generalizing bytes s with
  | zero => exact acts_hunt s
  | succ n ih =>
    cases bytes with
    | nil => exact acts_hunt s
    | cons b bs =>
      unfold rescan
      split
      · exact ih _ _
      · rename_i hb
        have hb' : b = startByte := Decidable.of_not_not hb
        split
        · rename_i st hp
          exact acts_setReceiver s _ _ fun _ => .inr ⟨by simp [hb'], hp⟩
        · exact (acts_countBadFrame s).trans (ih _ _)
        · exact (acts_dispatch s _).trans (ih _ _)

/-- An event that has a whole byte is that byte's event (R188). -/
theorem rxEvent_cases (l : Link) (sdi : List Bool) :
    ((l.spiBits ++ sdi).length < 8 ∧ rxEvent l sdi = .part (l.spiBits ++ sdi))
      ∨ ((l.spiBits ++ sdi).length = 8 ∧ rxEvent l sdi = byteEvent l (byteOfBits (l.spiBits ++ sdi)))
      ∨ (8 < (l.spiBits ++ sdi).length ∧ rxEvent l sdi = .overrun) := by
  unfold rxEvent
  dsimp only
  split
  · exact .inl ⟨‹_›, rfl⟩
  · split
    · exact .inr (.inl ⟨‹_›, rfl⟩)
    · exact .inr (.inr ⟨by omega, rfl⟩)

theorem byteEvent_ne_part (l : Link) (b : Byte) (bits : List Bool) : byteEvent l b ≠ .part bits := by
  unfold byteEvent
  split
  · split <;> simp
  · split <;> simp

theorem acts_part {s : State} {sdi bits : List Bool} (h : rxEvent s.link sdi = .part bits) :
    Acts s (s.modLink fun l => { l with spiBits := bits }) := by
  refine .single (.link s _ id id id (.refl _) (fun _ => ?_) id)
  rcases rxEvent_cases s.link sdi with ⟨h1, h2⟩ | ⟨_, h2⟩ | ⟨_, h2⟩ <;> rw [h2] at h
  · cases h; exact h1
  · exact absurd h (byteEvent_ne_part _ _ _)
  · cases h

theorem acts_gather {s : State} {sdi : List Bool} {st : RxState} {bytes : List Byte}
    (h : rxEvent s.link sdi = .gather st bytes) : Acts s (s.setReceiver st bytes) := by
  refine acts_setReceiver s _ _ fun hr => ?_
  rcases rxEvent_cases s.link sdi with ⟨_, h2⟩ | ⟨_, h2⟩ | ⟨_, h2⟩ <;> rw [h2] at h
  · cases h
  swap
  · cases h
  unfold byteEvent at h
  split at h
  · split at h
    · rename_i hb
      cases h
      exact .inr ⟨by simp [hb], by simp [parseFrame]⟩
    · cases h
      exact .inl ⟨rfl, rfl⟩
  · rename_i start held hl
    split at h
    · rename_i st' hp
      cases h
      refine .inr ⟨?_, hp⟩
      rcases hr with hr | hr
      · rw [hr.2] at hl; cases hl
      · rw [hl] at hr; exact hr.1
    · cases h
    · cases h

/-! ### Sending -/

/-- The byte of an ARBITER_CHOICE changes the outbound frame, SDO, the filler state and, for a notice, the notice list,
which loses its oldest entry (R188, R199, R202). -/
theorem nextByte_frame (l : Link) :
    ∃ notices outFrame sdo filler, notices.Sublist l.notices ∧
      l.nextByte = { l with notices := notices, outFrame := outFrame, sdo := sdo, filler := filler } := by
  unfold Link.nextByte
  split
  · exact ⟨_, l.outFrame, some 0, _, .refl _, rfl⟩
  · unfold Link.choose Link.beginFrame Link.sendFiller
    split
    · exact ⟨_, _, _, _, .refl _, rfl⟩
    · rename_i n ns _ h
      exact ⟨ns, _, _, _, h ▸ List.sublist_cons_self n ns, rfl⟩
    · exact ⟨_, _, _, _, .refl _, rfl⟩
    · exact ⟨_, _, _, _, .refl _, rfl⟩

theorem acts_nextByte (s : State) : Acts s (s.modLink Link.nextByte) := by
  obtain ⟨_, _, _, _, hn, h⟩ := nextByte_frame s.link
  have e : s.modLink Link.nextByte = { s with link := s.link.nextByte } := rfl
  rw [e, h]
  exact .single (.link s _ id id id hn id id)

theorem acts_completeFrame (s : State) (source : OutSource) : Acts s (s.completeFrame source) := by
  have h1 : Acts s (s.modLink fun l => { l with outFrame := none }) := .single (.link s _ id id id (.refl _) id id)
  unfold State.completeFrame
  dsimp only
  split
  · refine h1.trans (.single (.link _ _ id ?_ id (.refl _) id id))
    intro h
    simp only [List.length_drop]
    omega
  · exact h1
  · exact h1
  · have h2 : Acts s ((s.modLink fun l => { l with outFrame := none }).modLink
        fun l => { l with dataQueue := l.dataQueue.drop 1 }) := by
      refine h1.trans (.single (.link _ _ id id ?_ (.refl _) id id))
      intro h
      simp only [List.length_drop]
      omega
    split
    · exact h2.trans (acts_count _ _ _)
    · exact h2

/-! ### Requests -/

/-- What carrying out a request does: a chain of acts that places no reply. -/
structure AnswerActs (s : State) (a : Answer) : Prop where
  acts : Acts s a.state
  replies : a.state.link.replies.length ≤ s.link.replies.length

theorem AnswerActs.same (s : State) (code : ResultCode) (items : List Word) : AnswerActs s ⟨s, code, items⟩ :=
  ⟨.refl, le_refl _⟩

theorem AnswerActs.ofKept {s t : State} {c : ChanId} (h : Kept c s t) (code : ResultCode) (items : List Word) :
    AnswerActs s ⟨t, code, items⟩ := ⟨h.acts, le_of_eq h.replies⟩

/-- A taken request is a chain of acts when its own act is. -/
theorem acts_takeRequest {mine : Frame → Bool} {kind : Frame → Byte} {act : State → Frame → Answer} {s t : State}
    (ha : ∀ u f, AnswerActs u (act u f)) (h : takeRequest s mine kind act = .next t) : Acts s t := by
  unfold takeRequest unlessHeld at h
  split at h
  · cases h; exact .refl
  · split at h
    · cases h
    · rename_i f rest hq
      split at h
      · split at h
        · rename_i hr
          simp only [State.done_eq, Host.Outcome.next.injEq] at h
          subst h
          simp only [Config.replyMax] at hr
          have h1 : Acts s (s.modLink fun l => { l with requests := rest }) := by
            refine .single (.link s _ (fun h16 => ?_) id id (.refl _) id id)
            rw [hq, List.length_cons] at h16
            dsimp only
            omega
          have h2 := ha (s.modLink fun l => { l with requests := rest }) f
          have h3' : ∀ r, Acts (act (s.modLink fun l => { l with requests := rest }) f).state
              ((act (s.modLink fun l => { l with requests := rest }) f).state.placeReply r) := by
            intro r
            refine .single (.link _ _ id (fun _ => ?_) id (.refl _) id id)
            have h3 := h2.replies
            simp only [State.modLink_link] at h3
            simp only [List.length_append, List.length_singleton]
            omega
          exact ((h1.trans h2.acts).trans (h3' _)).trans (acts_settle _)
        · cases h; exact .refl
      · cases h

theorem answerActs_device {lengthOk : Nat → Bool} {act : State → Frame → Answer}
    (ha : ∀ u f, AnswerActs u (act u f)) (s : State) (f : Frame) : AnswerActs s (deviceRequest lengthOk act s f) := by
  unfold deviceRequest
  split
  · exact ha s f
  · exact .same s _ _

theorem answerActs_channel {lengthOk : Nat → Bool} {act : State → Frame → ChanId → Answer}
    (ha : ∀ u f c, AnswerActs u (act u f c)) (s : State) (f : Frame) :
    AnswerActs s (channelRequest lengthOk act s f) := by
  unfold channelRequest
  split
  · exact .same s _ _
  · split
    · exact ha s f _
    · exact .same s _ _

theorem answerActs_inStates {s : State} {c : ChanId} {states : List ChanState} {a : Answer}
    (ha : (s.ch c).state ∈ states → AnswerActs s a) : AnswerActs s (inStates s c states a) := by
  unfold inStates
  split
  · rename_i h
    exact ha h
  · exact .same s _ _

theorem answerActs_chan {s : State} {c : ChanId} {f : Channel → Channel} (code : ResultCode) (items : List Word)
    (h : ChanStep (s.ch c) (f (s.ch c))) : AnswerActs s ⟨s.modCh c f, code, items⟩ :=
  ⟨acts_chan h, le_refl _⟩

/-! #### Device requests -/

theorem answerActs_reset (s : State) (f : Frame) : AnswerActs s (actReset s f) :=
  ⟨.single (.reset s _), Nat.zero_le _⟩

theorem answerActs_profileWrite (s : State) (f : Frame) : AnswerActs s (actProfileWrite s f) := by
  unfold actProfileWrite
  split
  · exact .same s _ _
  · split
    · exact .same s _ _
    · split
      · exact .same s _ _
      · split
        · exact .same s _ _
        · rename_i h
          refine ⟨.single (.profile s _ _ h), le_of_eq ?_⟩
          unfold State.setProfile
          split <;> rfl

theorem answerActs_profileRead (s : State) (f : Frame) : AnswerActs s (actProfileRead s f) := by
  unfold actProfileRead
  split <;> exact .same s _ _

theorem answerActs_profileLock (s : State) (f : Frame) : AnswerActs s (actProfileLock s f) :=
  ⟨.single (.lock s), le_refl _⟩

theorem answerActs_statsSnapshot (s : State) (f : Frame) : AnswerActs s (actStatsSnapshot s f) := by
  have h1 : Acts s { s with snapshot := s.snapshotNow (f.flag 0 0) } := .single (.snapshot s _)
  unfold actStatsSnapshot
  refine ⟨?_, ?_⟩
  · dsimp only
    split
    · exact h1.trans (.single (.clear _))
    · exact h1
  · dsimp only
    split <;> exact le_refl _

theorem answerActs_statsRead (s : State) (f : Frame) : AnswerActs s (actStatsRead s f) := by
  unfold actStatsRead
  split
  · exact .same s _ _
  · split <;> exact .same s _ _

/-! #### Requests of a call's life -/

theorem answerActs_bind (s : State) (f : Frame) (c : ChanId) : AnswerActs s (actBind s f c) := by
  unfold actBind admitIfRoom
  split
  · exact .same s _ _
  · rename_i sl _
    split
    · exact .same s _ _
    · rename_i hf
      split
      · exact .same s _ _
      · split
        · exact .same s _ _
        · rename_i hs
          split
          · exact .same s _ _
          · rename_i ht
            split
            · exact .same s _ _
            · rename_i hp
              exact ⟨.single (.bind s c sl _ (Decidable.of_not_not hf) (Decidable.of_not_not hs) (by omega) (by omega)),
                le_refl _⟩

theorem freeUnit_granted (s : State) (c : ChanId) : Granted s (s.freeUnit c) := by
  unfold State.freeUnit
  split
  · exact .refl s
  · exact (Granted.unit s _ _).trans (granted_runArbiter _)

theorem withdrawSurvey_granted (s : State) (c : ChanId) : Granted s (s.withdrawSurvey c) :=
  (Granted.queueOnly s _).trans (freeUnit_granted _ c)

theorem cancelSurvey_state (s : State) (c d : ChanId) : ((s.cancelSurvey c).ch d).state = (s.ch d).state := by
  unfold State.cancelSurvey
  split
  · rfl
  · rw [(withdrawSurvey_granted _ c).state]
    exact recordSurvey_state s c d _

theorem cancelSurvey_replies (s : State) (c : ChanId) : (s.cancelSurvey c).link.replies = s.link.replies := by
  unfold State.cancelSurvey
  split
  · rfl
  · rw [(withdrawSurvey_granted _ c).link]
    rfl

theorem acts_drainAtOnce {s : State} {c : ChanId} (h : (s.ch c).state = .draining) : Acts s (s.drainAtOnce c) := by
  unfold State.drainAtOnce
  split
  · rename_i hp
    exact acts_endDrain _ _ h hp
  · split
    · exact acts_endDrainExpiring _ h
    · exact .refl

theorem endDrain_replies (s : State) (c : ChanId) (cause : DrainCause) (n : Nat) :
    (s.endDrain c cause n).link.replies = s.link.replies := rfl

theorem answerActs_quiesce (s : State) (f : Frame) (c : ChanId) : AnswerActs s (actQuiesce s f c) := by
  unfold actQuiesce
  split
  · rename_i h
    refine ⟨?_, le_of_eq ?_⟩
    · refine Relation.ReflTransGen.trans (.single (.quiesce s c h)) (acts_drainAtOnce ?_)
      simp [quiescedChannel]
    · have h1 : ∀ u : State, (u.drainAtOnce c).link.replies = u.link.replies := by
        intro u
        unfold State.drainAtOnce
        split
        · rfl
        · split <;> rfl
      show (s.quiesce c).link.replies.length = _
      unfold State.quiesce
      rw [h1, State.modCh_link, cancelSurvey_replies]
  · exact .same s _ _
  · exact .same s _ _
  · exact .same s _ _

theorem release_replies (s : State) (c : ChanId) : (s.release c).link.replies = s.link.replies := rfl

theorem answerActs_release (s : State) (f : Frame) (c : ChanId) : AnswerActs s (actRelease s f c) := by
  unfold actRelease
  refine answerActs_inStates fun h => ⟨.single (.release s c ?_), le_refl _⟩
  intro hf
  rw [hf] at h
  simp at h

/-! #### Requests on a channel's filters -/

theorem Frame.value_le (f : Frame) (k : Nat) : f.value k ≤ 65535 := by
  have := (f.word k).isLt
  unfold Frame.value
  omega

theorem answerActs_echoMode (s : State) (f : Frame) (c : ChanId) : AnswerActs s (actEchoMode s f c) := by
  have key : ∀ mode count thenMode, (mode = .train ↔ 1 ≤ count) → count ≤ 65535 →
      (thenMode ≠ .train ∨ thenMode = (s.ch c).echo.thenMode) →
      AnswerActs s (answerEchoMode s c mode count thenMode) := by
    intro mode count thenMode h hc ht
    unfold answerEchoMode
    exact answerActs_inStates fun _ => answerActs_chan _ _ (.setEcho _ mode count thenMode h hc ht)
  unfold actEchoMode
  split
  · exact .same s _ _
  · split
    · rename_i count thenMode hc ht
      have h1 : 1 ≤ count ∧ count ≤ 65535 := by
        unfold trainCountOf Config.trainDefault at hc
        have := Frame.value_le f 2
        split at hc
        · cases hc; omega
        · split at hc
          · cases hc
          · cases hc; omega
      have h2 : thenMode ≠ .train := by
        unfold thenModeOf at ht
        split at ht
        · cases ht; simp
        · split at ht <;> first | (cases ht; simp) | cases ht
      exact key _ _ _ (by simp [h1.1]) h1.2 (.inl h2)
    · exact .same s _ _
  · exact key _ _ _ (by simp) (by omega) (.inr rfl)
  · exact key _ _ _ (by simp) (by omega) (.inr rfl)

theorem answerActs_echoExtend (s : State) (f : Frame) (c : ChanId) : AnswerActs s (actEchoExtend s f c) := by
  unfold actEchoExtend
  refine answerActs_inStates fun _ => ?_
  split
  · exact .same s _ _
  · rename_i hm
    split
    · exact .same s _ _
    · rename_i hz
      split
      · exact .same s _ _
      · exact answerActs_chan (f := fun ch => setExtension ch (f.value 0)) _ _
          (.setExt _ _ (Decidable.of_not_not hm) ⟨by omega, Frame.value_le f 0⟩)

theorem answerActs_setDelay (s : State) (f : Frame) (c : ChanId) : AnswerActs s (actSetDelay s f c) := by
  unfold actSetDelay
  exact answerActs_inStates fun _ =>
    answerActs_chan (f := fun ch => setDelay ch (f.value 0) (f.flag 1 0)) _ _ (.delay _ _ _)

/-- EQ_MODE as one step of the channel's context (R123, R124). -/
theorem setEqMode_eq (s : State) (c : ChanId) (mode : EqMode) :
    s.setEqMode c mode = s.modCh c fun ch =>
      { ch with
        eq := { ch.eq with mode := mode, pendingRefs := if mode = .bypass then [] else ch.eq.pendingRefs }
        counters :=
          if mode = .bypass then
            { ch.counters with refsMissed := ch.counters.refsMissed + BitVec.ofNat 32 ch.eq.pendingRefs.length }
          else ch.counters } := by
  unfold State.setEqMode State.expireAll
  dsimp only
  split
  · rw [State.modCh_modCh]
  · rfl

theorem answerActs_eqMode (s : State) (f : Frame) (c : ChanId) : AnswerActs s (actEqMode s f c) := by
  unfold actEqMode
  split
  · exact .same s _ _
  · rename_i mode _
    refine answerActs_inStates fun _ => ?_
    rw [setEqMode_eq]
    exact answerActs_chan _ _ (.eqMode _ _ _)

theorem answerActs_tapsRead (s : State) (f : Frame) (c : ChanId) : AnswerActs s (actTapsRead s f c) := by
  unfold actTapsRead
  split
  · exact .same s _ _
  · rename_i set _
    split
    · exact .same s _ _
    · refine answerActs_inStates fun _ => ?_
      split
      · exact .same s _ _
      · rename_i taps ht
        unfold readTaps
        split
        · exact .same s _ _
        · rename_i hl
          exact answerActs_chan (f := fun ch => moveCursor ch set taps.length _ _) _ _
            (.cursor _ set taps _ _ ht (by omega))

@[simp] theorem overwrite_length (taps : List Sample) (start : Nat) (values : List Sample) (h : start ≤ taps.length) :
    (overwrite taps start values).length = taps.length := by
  simp only [overwrite, countUsed, List.length_append, List.length_take, List.length_drop]
  omega

theorem tapsOf_setTaps (ch : Channel) (set : TapSet) (taps : List Sample) (h : set = .near ∨ set = .far ∨ set = .eq) :
    tapsOf (setTaps ch set taps) set = some taps := by
  rcases h with h | h | h <;> subst h <;> rfl

theorem writableSet_mem {code : Nat} {set : TapSet} (h : writableSet code = some set) :
    set = .near ∨ set = .far ∨ set = .eq := by
  unfold writableSet at h
  split at h <;> cases h <;> simp

theorem answerActs_tapsWrite (s : State) (f : Frame) (c : ChanId) : AnswerActs s (actTapsWrite s f c) := by
  unfold actTapsWrite
  split
  · exact .same s _ _
  · rename_i set hs
    split
    · unfold writeTaps
      split
      · exact .same s _ _
      · rename_i hl
        have hw := writableSet_mem hs
        have ht : ∃ taps, tapsOf (s.ch c) set = some taps := by
          rcases hw with h | h | h <;> subst h <;> exact ⟨_, rfl⟩
        obtain ⟨taps, ht⟩ := ht
        rw [ht, Option.getD_some] at hl ⊢
        refine ⟨?_, le_refl _⟩
        have h1 := acts_chan (s := s) (c := c)
          (f := fun ch => setTaps ch set (overwrite taps (startUsed (s.ch c) set (startOf (f.word 1)))
            ((payloadWords f.payload).drop 2)))
          (.taps _ set taps _ _ ht)
        have h2 := acts_chan
          (s := s.modCh c fun ch => setTaps ch set (overwrite taps (startUsed (s.ch c) set (startOf (f.word 1)))
            ((payloadWords f.payload).drop 2))) (c := c)
          (f := fun ch => moveCursor ch set
            (overwrite taps (startUsed (s.ch c) set (startOf (f.word 1))) ((payloadWords f.payload).drop 2)).length
            (startUsed (s.ch c) set (startOf (f.word 1))) ((payloadWords f.payload).drop 2).length)
          (.cursor _ set _ _ _ (by rw [State.modCh_ch_same]; exact tapsOf_setTaps _ _ _ hw)
            (by rw [overwrite_length _ _ _ (by omega)]; omega))
        have h3 := h1.trans h2
        rw [State.modCh_modCh, overwrite_length _ _ _ (by omega)] at h3
        exact h3
    · exact .same s _ _

theorem answerActs_checkpoint (s : State) (f : Frame) (c : ChanId) : AnswerActs s (actCheckpoint s f c) := by
  unfold actCheckpoint
  exact answerActs_inStates fun _ => answerActs_chan _ _ (.checkpoint _)

theorem answerActs_restore (s : State) (f : Frame) (c : ChanId) : AnswerActs s (actRestore s f c) := by
  unfold actRestore
  refine answerActs_inStates fun _ => ?_
  split
  · exact .same s _ _
  · rename_i k hk
    refine ⟨?_, le_refl _⟩
    have h1 := acts_chan (s := s) (c := c) (f := fun ch => loadCheckpoint ch k) (.restore _ k hk)
    have h2 := acts_chan (s := s.modCh c fun ch => loadCheckpoint ch k) (c := c) (f := fun ch => setStrikes ch 0)
      (.strikes _ 0 (by omega))
    have h3 := h1.trans h2
    rw [State.modCh_modCh] at h3
    exact h3

/-! #### Surveys and quality -/

theorem lagsFit_surveyEntryFor (c : ChanId) (maxDelay lo hi : Nat) (probe apply : Bool) :
    LagsFit maxDelay (surveyEntryFor c maxDelay lo hi probe apply) := by
  unfold surveyEntryFor LagsFit
  dsimp only [Config.lagMax]
  omega

theorem answerActs_survey (s : State) (f : Frame) (c : ChanId) : AnswerActs s (actSurvey s f c) := by
  unfold actSurvey
  refine answerActs_inStates fun ho => ?_
  split
  · exact .same s _ _
  · rename_i hn
    refine ⟨.single (.queue s _ ?_ (Decidable.of_not_not hn) (lagsFit_surveyEntryFor _ _ _ _ _ _)), le_of_eq ?_⟩
    · show (s.ch c).state = .opened
      simpa using ho
    · show (State.queueSurvey _ _).link.replies.length = _
      unfold State.queueSurvey
      rw [(granted_runArbiter _).link]
      rfl

theorem answerActs_surveyCancel (s : State) (f : Frame) (c : ChanId) : AnswerActs s (actSurveyCancel s f c) := by
  unfold actSurveyCancel
  refine answerActs_inStates fun h => ?_
  split
  · refine ⟨acts_runSurveyCancel ?_, le_of_eq (congrArg List.length (cancelSurvey_replies s c))⟩
    intro hf
    rw [hf] at h
    simp at h
  · exact .same s _ _

theorem answerActs_quality (s : State) (f : Frame) (c : ChanId) : AnswerActs s (actQuality s f c) := by
  unfold actQuality
  exact answerActs_inStates fun _ => .same s _ _

/-! ### Every command -/

/-- A command that completes after NRST's check, with its guard met, is a chain of acts when its own act is. -/
theorem acts_done {s u t : State} (h : Acts s u) (ht : u.done = .next t) : Acts s t := by
  simp only [State.done_eq, Host.Outcome.next.injEq] at ht
  exact ht ▸ h.trans (acts_settle u)

theorem acts_unlessHeld {s t : State} {body : StepResult} (hb : body = .next t → Acts s t)
    (h : unlessHeld s body = .next t) : Acts s t := by
  unfold unlessHeld at h
  split at h
  · cases h; exact .refl
  · exact hb h

theorem acts_powerUp (s : State) : Acts s s.powerUp := by
  have h : s.powerUp.setNrst false = s.powerUp := by simp only [State.setNrst, State.powerUp, State.reset]
  exact h ▸ .single (.powerUp s false)

/-- Whatever command completes, it is a chain of the acts of `Act`. -/
theorem exec_acts {i : Instr} {s t : State} (h : exec i s = .next t) : Acts s t := by
  cases i with
  | powerUp => exact acts_done (acts_powerUp s) h
  | huntSync hfs =>
    refine acts_unlessHeld (fun h => ?_) h
    split at h
    · exact acts_done ((acts_foundHfs s hfs).trans (acts_huntSync _ _)) h
    · cases h
  | frameEnd frame =>
    refine acts_unlessHeld (fun h => ?_) h
    split at h
    · exact acts_done (((acts_foundHfs s frame.hfs).trans (acts_countFrame _)).trans (acts_channelsAtFrame _ _)) h
    · cases h
  | slip hfs =>
    refine acts_unlessHeld (fun h => ?_) h
    split at h
    · exact acts_done ((acts_foundHfs s hfs).trans (acts_slipFrame _)) h
    · cases h
  | highwayLoss hfs =>
    refine acts_unlessHeld (fun h => ?_) h
    split at h
    · exact acts_done ((acts_foundHfs s hfs).trans (acts_loseHighway _ _)) h
    · cases h
  | trainExpiry c =>
    refine acts_unlessHeld (fun h => ?_) h
    split at h
    · rename_i hc
      obtain ⟨ho, hm, _, he⟩ := hc
      refine acts_done ?_ h
      unfold State.expireTraining
      have h1 := kept_chan (s := s) (c := c) (f := expiredTraining) (.expire _ hm he)
        (by unfold expiredTraining; dsimp only; split <;> rfl)
      exact ((h1.trans (kept_raise _ (by rw [h1.state, ho]; simp))).trans (kept_count _ _ _)).acts
    · cases h
  | extensionTaken c =>
    refine acts_unlessHeld (fun h => ?_) h
    split at h
    · rename_i n he
      split at h
      · rename_i hc
        exact acts_done (acts_chan (f := fun ch => takenExtension ch n) (.extend _ n hc.2.1 he)) h
      · cases h
    · cases h
  | leadInEnd c =>
    refine acts_unlessHeld (fun h => ?_) h
    split at h
    · rename_i i k hu
      split at h
      · refine acts_done (.single (.unit s i k (leadInDone k) ?_ rfl ?_)) h
        · unfold State.unitFor at hu
          simp only [Option.bind_eq_some_iff, Option.map_eq_some_iff, Prod.mk.injEq] at hu
          obtain ⟨j, _, k', hk, rfl, rfl⟩ := hu
          exact hk
        · rintro ⟨h1, h2, h3, h4, h5⟩
          exact ⟨h1, h2, by simp [leadInDone], h4, by simp [leadInDone]⟩
      · cases h
    · cases h
  | windowEnd c =>
    refine acts_unlessHeld (fun h => ?_) h
    split at h
    · rename_i i k hu
      split at h
      · rename_i hc
        refine acts_done (kept_endWindow k ?_ (by simp [hc.1])).acts h
        unfold State.unitFor at hu
        simp only [Option.bind_eq_some_iff, Option.map_eq_some_iff, Prod.mk.injEq] at hu
        obtain ⟨j, hj, _, _, rfl, _⟩ := hu
        exact hj
      · cases h
    · cases h
  | drainTimeout c =>
    refine acts_unlessHeld (fun h => ?_) h
    split at h
    · rename_i hc
      exact acts_done (acts_endDrainExpiring _ hc.1) h
    · cases h
  | chipSelectRise =>
    refine acts_unlessHeld (fun h => ?_) h
    exact acts_done (.single (.link s { s.link with spiBits := [], sdo := none, filler := s.link.fillerAtRise } id id id (.refl _)
      (fun _ => Nat.zero_lt_succ 7) id)) h
  | badFrame sdi =>
    refine acts_unlessHeld (fun h => ?_) h
    split at h
    · exact acts_done (((acts_hunt s).trans (acts_countBadFrame _)).trans (acts_rescan _ _ _)) h
    · cases h
    · cases h
    · cases h
    · cases h
  | requestArrival sdi =>
    refine acts_unlessHeld (fun h => ?_) h
    split at h
    · split at h
      · exact acts_done ((acts_hunt s).trans (acts_arriveRequest _ _)) h
      · cases h
    · cases h
    · cases h
    · cases h
    · cases h
  | txBlock sdi =>
    refine acts_unlessHeld (fun h => ?_) h
    split at h
    · split at h
      · exact acts_done ((acts_hunt s).trans (acts_arriveTxBlock _ _)) h
      · cases h
    · cases h
    · cases h
    · cases h
    · cases h
  | refBlock sdi =>
    refine acts_unlessHeld (fun h => ?_) h
    split at h
    · split at h
      · exact acts_done ((acts_hunt s).trans (acts_arriveRefBlock _ _)) h
      · cases h
    · cases h
    · cases h
    · cases h
    · cases h
  | unknownKind => exact acts_takeRequest (fun u f => .same u _ _) h
  | info => exact acts_takeRequest (answerActs_device fun u f => .same u _ _) h
  | reset => exact acts_takeRequest (answerActs_device answerActs_reset) h
  | profileWrite => exact acts_takeRequest (answerActs_device answerActs_profileWrite) h
  | profileRead => exact acts_takeRequest (answerActs_device answerActs_profileRead) h
  | profileLock => exact acts_takeRequest (answerActs_device answerActs_profileLock) h
  | statsSnapshot => exact acts_takeRequest (answerActs_device answerActs_statsSnapshot) h
  | statsRead => exact acts_takeRequest (answerActs_device answerActs_statsRead) h
  | bind => exact acts_takeRequest (answerActs_channel answerActs_bind) h
  | quiesce => exact acts_takeRequest (answerActs_channel answerActs_quiesce) h
  | release => exact acts_takeRequest (answerActs_channel answerActs_release) h
  | echoMode => exact acts_takeRequest (answerActs_channel answerActs_echoMode) h
  | echoExtend => exact acts_takeRequest (answerActs_channel answerActs_echoExtend) h
  | setDelay => exact acts_takeRequest (answerActs_channel answerActs_setDelay) h
  | eqMode => exact acts_takeRequest (answerActs_channel answerActs_eqMode) h
  | tapsRead => exact acts_takeRequest (answerActs_channel answerActs_tapsRead) h
  | tapsWrite => exact acts_takeRequest (answerActs_channel answerActs_tapsWrite) h
  | checkpoint => exact acts_takeRequest (answerActs_channel answerActs_checkpoint) h
  | restore => exact acts_takeRequest (answerActs_channel answerActs_restore) h
  | survey => exact acts_takeRequest (answerActs_channel answerActs_survey) h
  | surveyCancel => exact acts_takeRequest (answerActs_channel answerActs_surveyCancel) h
  | quality => exact acts_takeRequest (answerActs_channel answerActs_quality) h
  | arbiterChoice =>
    refine acts_unlessHeld (fun h => ?_) h
    split at h
    · exact acts_done (acts_nextByte s) h
    · cases h
  | outboundFrameComplete bytes =>
    refine acts_unlessHeld (fun h => ?_) h
    split at h
    · cases h
    · rename_i o _
      refine acts_done ?_ h
      have h1 : ∀ p, Acts s (s.modLink fun l => l.sentUpTo o p) :=
        fun p => .single (.link s _ id id id (.refl _) id id)
      split
      · exact (h1 _).trans (acts_completeFrame _ _)
      · exact h1 _
  | inboundByte sdi =>
    refine acts_unlessHeld (fun h => ?_) h
    split at h
    · rename_i hp
      exact acts_done (acts_part hp) h
    · rename_i hg
      exact acts_done (acts_gather hg) h
    · cases h
    · cases h
    · cases h
  | nrstHeldLow => exact acts_done (.single (.powerUp s true)) h

/-- One bit clock is a chain of acts. -/
theorem acts_bitClock (s : State) : Acts s s.bitClock := by
  unfold State.bitClock
  split
  · split
    · exact acts_highway s _ rfl
    · exact (acts_loseHighway s false).trans (acts_settle _)
  · split
    · exact acts_highway s _ rfl
    · exact .refl
  · split
    · exact acts_highway s _ rfl
    · exact .refl

/-- The step of an empty queue is a chain of acts. -/
theorem idle_acts {s t : State} (h : idle s = .next t) : Acts s t := by
  refine acts_unlessHeld (fun h => ?_) h
  simp only [Host.Outcome.next.injEq] at h
  exact h ▸ (acts_foundHfs s [false]).trans (acts_bitClock _)

/-- A step is a chain of acts from the state with the command off its queue. -/
theorem step_acts {s t : State} (h : step s = .next t) : ∃ u, u = { s with pending := u.pending } ∧ Acts u t := by
  unfold step at h
  split at h
  · exact ⟨s, rfl, idle_acts h⟩
  · exact ⟨_, rfl, exec_acts h⟩

end Sys2Proof.Laws
end

