-- ==== Sys2Proof/Laws/Framing.lean ====
section
/-! SUPPORT. What the operations on the ports' bits say: the recognition of a sync (R18) and the bits of a byte (R188). -/

namespace Sys2Proof.Laws
open Sys2Proof.Machine Sys2Proof.Safety

/-- No sync is recognized exactly when no level is high after a low one (R18). -/
theorem noSync_iff (before : Bool) (hfs : List Bool) :
    noSync before hfs = true ↔ ∀ k : Nat, ¬ RisesAfter (before :: hfs) k := by
  induction hfs generalizing before with
  | nil => simp [noSync, RisesAfter]
  | cons level rest ih =>
    rw [noSync, Bool.and_eq_true, ih]
    constructor
    · rintro ⟨h0, h⟩ k
      cases k with
      | zero => rintro ⟨h1, h2⟩; simp_all [isSync]
      | succ k => exact h k
    · intro h
      refine ⟨?_, fun k => h (k + 1)⟩
      have := h 0
      simp only [RisesAfter, List.getElem?_cons_zero, List.getElem?_cons_succ, Option.some.injEq, zero_add] at this
      cases before <;> cases level <;> simp_all [isSync]

/-- A sync is recognized at the last level exactly when that one, and none before it, is high after a low one (R18). -/
theorem syncAtLast_iff (before : Bool) (hfs : List Bool) :
    syncAtLast before hfs = true ↔ ∃ n : Nat, hfs.length = n + 1 ∧ RisesAfter (before :: hfs) n
      ∧ ∀ k : Nat, k < n → ¬ RisesAfter (before :: hfs) k := by
  induction hfs generalizing before with
  | nil => simp [syncAtLast]
  | cons level rest ih =>
    cases rest with
    | nil => cases before <;> cases level <;> simp [syncAtLast, isSync, RisesAfter]
    | cons next rest =>
      rw [syncAtLast, Bool.and_eq_true, ih]
      constructor
      · rintro ⟨h0, n, hn, h, hk⟩
        refine ⟨n + 1, by simp_all, h, fun k hlt => ?_⟩
        cases k with
        | zero => rintro ⟨h1, h2⟩; simp_all [isSync]
        | succ k => exact hk k (by omega)
      · rintro ⟨n, hn, h, hk⟩
        cases n with
        | zero => simp at hn
        | succ n =>
          refine ⟨?_, n, by simp_all, h, fun k hlt => hk (k + 1) (by omega)⟩
          have := hk 0 (by omega)
          simp only [RisesAfter, List.getElem?_cons_zero, List.getElem?_cons_succ, Option.some.injEq, zero_add] at this
          cases before <;> cases level <;> simp_all [isSync]

/-- A command's levels cannot both bring a sync at the last and none. -/
theorem noSync_false_of_syncAtLast {before : Bool} {hfs : List Bool} (h : syncAtLast before hfs = true) :
    noSync before hfs = false := by
  obtain ⟨n, _, hn, _⟩ := (syncAtLast_iff before hfs).1 h
  exact Bool.eq_false_iff.2 fun h => (noSync_iff before hfs).1 h n hn

/-- The level held after a sync is high. -/
theorem getLastD_of_syncAtLast {before : Bool} {hfs : List Bool} (h : syncAtLast before hfs = true) :
    hfs.getLastD before = true := by
  induction hfs generalizing before with
  | nil => cases h
  | cons level rest ih =>
    cases rest with
    | nil => cases before <;> cases level <;> simp_all [syncAtLast, isSync]
    | cons next rest =>
      rw [syncAtLast, Bool.and_eq_true] at h
      have := ih h.2
      simpa [List.getLastD] using this

@[simp] theorem byteBits_length (b : Byte) : (byteBits b).length = 8 := by simp [byteBits]

/-- A byte is made again of its own bits (R188). -/
theorem byteOfBits_byteBits (b : Byte) : byteOfBits (byteBits b) = b := by
  have h : ∀ n : Fin 256, byteOfBits (byteBits (BitVec.ofNat 8 n.val)) = BitVec.ofNat 8 n.val := by decide +kernel
  have := h ⟨b.toNat, b.isLt⟩
  simpa using this

end Sys2Proof.Laws
end

