-- ==== Sys2Proof/Laws/Invariants.lean ====
section
/-! SUPPORT. How an invariant is carried: over a chain of acts (`acts_keep`), over one channel's context (`ChanInv.act`), and
over a sum of all contexts (`sum_setCh`). -/

namespace Sys2Proof.Laws
open Sys2Proof.Machine Sys2Proof.Safety

/-- What every act keeps, a chain of acts keeps. -/
theorem acts_keep {P : State → Prop} (h : ∀ s t, Act s t → P s → P t) {s t : State} (ha : Acts s t) (hs : P s) :
    P t := by
  induction ha with
  | refl => exact hs
  | tail _ h2 ih => exact h _ _ h2 ih

/-- What every act keeps, a step keeps, when it does not read the queue of waiting commands. -/
theorem step_keep {P : State → Prop} (h : ∀ s t, Act s t → P s → P t)
    (hp : ∀ (s : State) q, P s → P { s with pending := q }) {s t : State} (hst : step s = .next t) (hs : P s) : P t := by
  unfold step at hst
  split at hst
  · exact acts_keep h (idle_acts hst) hs
  · exact acts_keep h (exec_acts hst) (hp _ _ hs)

theorem ch_setCh (s : State) (c d : ChanId) (x : Channel) : (s.setCh c x).ch d = if d = c then x else s.ch d := by
  split
  · rename_i h
    subst h
    simp
  · rename_i h
    simp [h]

/-- Replacing one channel's context moves a sum over the channels by that channel's share. -/
theorem sum_setCh {f : Channel → Nat} (s : State) (c : ChanId) (x : Channel) :
    ∑ d, f ((s.setCh c x).ch d) + f (s.ch c) = ∑ d, f (s.ch d) + f x := by
  have h1 := Finset.add_sum_erase Finset.univ (fun d => f ((s.setCh c x).ch d)) (Finset.mem_univ c)
  have h2 := Finset.add_sum_erase Finset.univ (fun d => f (s.ch d)) (Finset.mem_univ c)
  have h3 : ∑ d ∈ Finset.univ.erase c, f ((s.setCh c x).ch d) = ∑ d ∈ Finset.univ.erase c, f (s.ch d) := by
    apply Finset.sum_congr rfl
    intro d hd
    rw [ch_setCh, if_neg (Finset.ne_of_mem_erase hd)]
  simp only [State.setCh_ch_same] at h1
  omega

/-! ### What the survey unit's acts do to a channel -/

/-- A context with the parts that the survey unit writes replaced. -/
def withShared (x : Channel) (sv : SurveyState) (lr : Option SurveyRecord) (k : ChanCounters) (p : BitVec 15) : Channel :=
  { x with survey := sv, lastResult := lr, counters := k, tx := { x.tx with probe := p } }

theorem granted_shared {s t : State} (h : Granted s t) (d : ChanId) :
    ∃ sv lr k p, t.ch d = withShared (s.ch d) sv lr k p := by
  obtain ⟨sv, p, e⟩ := h.chans d
  exact ⟨sv, (s.ch d).lastResult, (s.ch d).counters, p, e⟩

theorem record_shared (s : State) (c d : ChanId) (r : SurveyRecord) :
    ∃ sv lr k p, (s.recordSurvey c r).ch d = withShared (s.ch d) sv lr k p := by
  by_cases h : d = c
  · subst h
    exact ⟨.noSurvey, some r, { (s.ch d).counters with surveysDone := (s.ch d).counters.surveysDone + 1 },
      (s.ch d).tx.probe, by simp [State.recordSurvey, withShared]⟩
  · exact ⟨(s.ch d).survey, (s.ch d).lastResult, (s.ch d).counters, (s.ch d).tx.probe,
      by simp [State.recordSurvey, h, withShared]⟩

theorem shared_trans {x y z : Channel} (h : ∃ sv lr k p, y = withShared x sv lr k p)
    (k : ∃ sv lr k p, z = withShared y sv lr k p) : ∃ sv lr k p, z = withShared x sv lr k p := by
  obtain ⟨_, _, _, _, rfl⟩ := h
  obtain ⟨a, b, c, d, rfl⟩ := k
  exact ⟨a, b, c, d, rfl⟩

theorem cancel_shared (s : State) (c d : ChanId) :
    ∃ sv lr k p, (s.cancelSurvey c).ch d = withShared (s.ch d) sv lr k p := by
  unfold State.cancelSurvey
  split
  · exact ⟨(s.ch d).survey, (s.ch d).lastResult, (s.ch d).counters, (s.ch d).tx.probe, rfl⟩
  · exact shared_trans (record_shared s c d _) (granted_shared (withdrawSurvey_granted _ c) d)

theorem queueSurvey_shared (s : State) (e : SurveyEntry) (d : ChanId) :
    ∃ sv lr k p, (s.queueSurvey e).ch d = withShared (s.ch d) sv lr k p := by
  unfold State.queueSurvey
  refine shared_trans ?_ (granted_shared (granted_runArbiter _) d)
  by_cases h : d = e.channel
  · subst h
    exact ⟨.queued, (s.ch e.channel).lastResult, (s.ch e.channel).counters, (s.ch e.channel).tx.probe,
      by rw [State.modCh_ch_same]; rfl⟩
  · exact ⟨(s.ch d).survey, (s.ch d).lastResult, (s.ch d).counters, (s.ch d).tx.probe,
      by rw [State.modCh_ch_ne _ _ _ _ h]; rfl⟩

theorem endRunning_shared (s : State) (c d : ChanId) (i : Fin 4) (r : SurveyRecord) :
    ∃ sv lr k p, (s.endRunning c i r).ch d = withShared (s.ch d) sv lr k p := by
  unfold State.endRunning
  exact shared_trans (record_shared s c d r) (granted_shared ((Granted.unit _ _ _).trans (granted_runArbiter _)) d)

/-- After a RELEASE the channel is FREE with its counters, and the others differ at most in what the survey unit
writes (R54, R158). -/
theorem release_ch (s : State) (c d : ChanId) :
    (d = c ∧ (s.release c).ch d = Channel.blank (s.ch c).counters)
      ∨ (d ≠ c ∧ ∃ sv lr k p, (s.release c).ch d = withShared (s.ch d) sv lr k p) := by
  have h1 : (s.release c).ch d =
      (((s.withdrawSurvey c).unmap c).setCh c (Channel.blank (s.ch c).counters)).ch d := rfl
  rw [h1, ch_setCh]
  by_cases h : d = c
  · exact .inl ⟨h, by rw [if_pos h]⟩
  · refine .inr ⟨h, ?_⟩
    rw [if_neg h]
    have h2 : ((s.withdrawSurvey c).unmap c).ch d = (s.withdrawSurvey c).ch d := by
      unfold State.unmap
      split <;> rfl
    rw [h2]
    exact granted_shared (withdrawSurvey_granted s c) d

/-- After an admitted BIND the channel holds BIND's values and no other context has changed (R40, R41). -/
theorem admit_ch (s : State) (c d : ChanId) (sl : SlotId) (p : Profile) :
    (s.admitCall c sl p).ch d = if d = c then boundChannel sl p (s.freePages.take p.pagesNeeded) else s.ch d := by
  have h1 : (s.admitCall c sl p).ch d =
      ((s.setSlot sl (some c)).setCh c (boundChannel sl p (s.freePages.take p.pagesNeeded))).ch d := rfl
  rw [h1, ch_setCh]
  split <;> rfl

/-- A property of one channel's context that every act on a context keeps. -/
structure ChanInv (P : Channel → Prop) : Prop where
  step : ∀ x y, ChanStep x y → P x → P y
  guarded : ∀ x, P x → P (guardIfOpen x)
  shared : ∀ x sv lr k p, P x → P (withShared x sv lr k p)
  quiesced : ∀ x, x.state = .opened → P x → P (quiescedChannel x)
  blank : ∀ k, P (Channel.blank k)

/-- Such a property, if it also holds of BIND's context, is kept for every channel by every act. -/
theorem ChanInv.act {P : Channel → Prop} (h : ChanInv P) {s t : State} (ha : Act s t)
    (hb : ∀ sl k pages, pages.length = (s.profile k).pagesNeeded → P (boundChannel sl (s.profile k) pages))
    (hs : ∀ c, P (s.ch c)) : ∀ c, P (t.ch c) := by
  have carry : ∀ {x y : Channel}, (∃ sv lr k p, y = withShared x sv lr k p) → P x → P y := by
    rintro x y ⟨sv, lr, k, p, rfl⟩ hx
    exact h.shared x sv lr k p hx
  intro d
  cases ha with
  | highway | page | device | raised | link | unit | lock | snapshot | choice => exact hs d
  | profile k p _ => unfold State.setProfile; split <;> exact hs d
  | chan c x hx =>
    rw [ch_setCh]
    split
    · exact h.step _ _ hx (hs c)
    · exact hs d
  | guarded => rw [State.guardOpen_ch]; exact h.guarded _ (hs d)
  | restarted => rw [State.restartSurveys_ch]; exact hs d
  | queue e => exact carry (queueSurvey_shared s e d) (hs d)
  | surveyEnd c i r => exact carry (endRunning_shared s c d i r) (hs d)
  | cancel c r =>
    exact carry (shared_trans (record_shared s c d r) (granted_shared (withdrawSurvey_granted _ c) d)) (hs d)
  | quiesce c hc =>
    rw [State.modCh, ch_setCh]
    split
    · refine h.quiesced _ ?_ (carry (cancel_shared s c c) (hs c))
      rw [cancelSurvey_state, hc]
    · exact carry (cancel_shared s c d) (hs d)
  | bind c sl k _ _ _ hp =>
    rw [admit_ch]
    split
    · exact hb sl k _ (by simp; omega)
    · exact hs d
  | release c =>
    rcases release_ch s c d with ⟨_, e⟩ | ⟨_, e⟩
    · rw [e]; exact h.blank _
    · exact carry e (hs d)
  | reset r => rw [State.resetPart_ch]; exact h.blank _
  | powerUp b => rw [State.setNrst_ch, State.powerUp_ch]; exact h.blank _
  | clear =>
    rw [State.clearCounters_ch]
    exact h.shared (s.ch d) (s.ch d).survey (s.ch d).lastResult ChanCounters.zero (s.ch d).tx.probe (hs d)

end Sys2Proof.Laws
end

