-- ==== Sys2Proof/Laws/Lists.lean ====
section
/-! SUPPORT. The two list operations behind a frame end: the free order holds each channel asked for exactly once (log entry
4), and a notice placed leaves the entries of other kinds and channels as they stand (R198). -/

namespace Sys2Proof.Laws
open Sys2Proof.Machine Sys2Proof.Safety

theorem insertByRank_perm (rank : ChanId → Nat) (c : ChanId) (cs : List ChanId) :
    (insertByRank rank c cs).Perm (c :: cs) := by
  induction cs with
  | nil => exact .refl _
  | cons d ds ih =>
    unfold insertByRank
    split
    · exact .refl _
    · exact (ih.cons d).trans (.swap c d ds)

theorem sortByRank_perm (rank : ChanId → Nat) (cs : List ChanId) : (sortByRank rank cs).Perm cs := by
  induction cs with
  | nil => exact .refl _
  | cons c cs ih => exact (insertByRank_perm rank c _).trans (ih.cons c)

/-- The free order has no repeats. -/
theorem nodup_channelsInFreeOrder (s : State) (p : ChanId → Bool) : (s.channelsInFreeOrder p).Nodup :=
  (sortByRank_perm _ _).nodup_iff.2 ((List.nodup_finRange 40).filter p)

/-- The free order holds exactly the channels asked for. -/
theorem mem_channelsInFreeOrder (s : State) (p : ChanId → Bool) (c : ChanId) :
    c ∈ s.channelsInFreeOrder p ↔ p c = true := by
  simp [State.channelsInFreeOrder, (sortByRank_perm _ _).mem_iff]

/-- Placing a notice leaves the entries that `touched` does not hold of as they stand, when it holds of every notice of its
kind and channel. -/
theorem placeNotice_others {touched : Notice → Bool} {channel : Byte} {body : NoticeBody}
    (h : ∀ n : Notice, n.channel = channel → noticeKind n.body = noticeKind body → touched n = true) (l : List Notice) :
    (placeNotice channel body l).filter (fun n => !touched n) = l.filter fun n => !touched n := by
  induction l with
  | nil => simp [placeNotice, h ⟨channel, 1, body⟩ rfl rfl]
  | cons n ns ih =>
    unfold placeNotice
    split
    · rename_i hs
      simp [h n hs.1 hs.2, h ⟨channel, _, body⟩ rfl rfl]
    · simp [List.filter_cons, ih]

end Sys2Proof.Laws
end

