-- ==== Sys2Proof/WellFormed.lean ====
section
/-! DEFINITION. Which commands are well formed: the bounds of the operands that are plain counts or lists. Channel numbers,
slots, samples and bytes are within range by their types. -/

namespace Sys2Proof

/-- The operand bounds of a command. A highway event comes at least one bit clock after the one counted last; the bit count
of a frame end reaches 1024, that of a slip stays below the loss count, that of a loss reaches it (R18, R19). An inbound
command clocks 1 to 8 bits (R188); at least one byte is clocked out, and no frame is longer than 1032 bytes (R190). -/
def Instr.wf : Instr → Bool
  | .huntSync hfs => !hfs.isEmpty
  | .frameEnd frame => !frame.hfs.isEmpty && decide (frame.hfs.length ≤ Config.frameClocks)
  | .slip hfs => !hfs.isEmpty && decide (hfs.length < Config.lossClocks)
  | .highwayLoss hfs => !hfs.isEmpty && decide (hfs.length ≤ Config.lossClocks)
  | .badFrame sdi | .requestArrival sdi | .txBlock sdi | .refBlock sdi | .inboundByte sdi =>
    !sdi.isEmpty && decide (sdi.length ≤ 8)
  | .outboundFrameComplete bytes => decide (1 ≤ bytes) && decide (bytes ≤ Config.payloadMax + 8)
  | .powerUp | .trainExpiry _ | .extensionTaken _ | .leadInEnd _ | .windowEnd _ | .drainTimeout _ | .chipSelectRise
  | .unknownKind | .info | .reset | .profileWrite | .profileRead | .profileLock | .statsSnapshot | .statsRead | .bind
  | .quiesce | .release | .echoMode | .echoExtend | .setDelay | .eqMode | .tapsRead | .tapsWrite | .checkpoint | .restore
  | .survey | .surveyCancel | .quality | .arbiterChoice | .nrstHeldLow => true

end Sys2Proof
end

