-- ==== Sys2Proof/Tests/Slice0.lean ====
section
/-! SUPPORT. The model's own tests: the refusals of `Instr.wf`, the spec's worked cases (expected results are the spec's),
and for each statement with hypotheses a witness: a concrete state and operands that meet them together. -/

namespace Sys2Proof.Tests
open Sys2Proof.Machine Sys2Proof.Safety Sys2Proof.Laws

-- The tests run one after another: run all at once, each waits for the kernel on a thread of its own.
set_option Elab.async false

/-! ### Small states -/

/-- A request frame from words. -/
def req (kind channel : Byte) (words : List Word) : Frame := ⟨kind, channel, 7, payloadOf words⟩

/-- The state with one request waiting. -/
def ask (s : State) (f : Frame) : State := s.modLink fun l => { l with requests := [f] }

/-- Channel 0 bound to slot 12 with the default profile. -/
def call : State := State.reset.admitCall 0 12 defaultProfile

/-- The same call in another channel context. -/
def callWith (f : Channel → Channel) : State := call.modCh 0 f

/-- The state with the highway in SYNCED. -/
def synced (s : State) : State := { s with highway := { s.highway with state := .synced } }

/-- The state at a bit count, with the frame sync input found high or low last. -/
def clockedTo (n : Nat) (level : Bool) (s : State) : State :=
  { s with highway := { s.highway with bitCount := n, hfs := level } }

/-- The state with bytes held by the receiver. -/
def holding (s : State) (bytes : List Byte) : State := s.setReceiver .body bytes

/-- All but the last byte of a frame. -/
def allButLast (f : Frame) : List Byte := (frameBytes f).dropLast

/-- The last check byte of a frame. -/
def lastByte (f : Frame) : Byte := (frameBytes f).getLastD 0

/-- The bits of that byte. -/
def lastBits (f : Frame) : List Bool := byteBits (lastByte f)

/-- A pending entry with 10 outputs and positions. -/
def entry (seq : Word) : PendingEntry := ⟨seq, List.replicate 10 100, List.range 10, false⟩

/-- Whether an outcome is a next state. -/
def completes : StepResult → Bool
  | .next _ => true
  | .fault _ | .refused _ => false

theorem next_of_completes {o : StepResult} (h : completes o = true) : ∃ t, o = .next t := by
  cases o with
  | next t => exact ⟨t, rfl⟩
  | fault r => cases h
  | refused r => cases h

/-- The next state, for tests on its fields. -/
def after (s : State) : StepResult → State
  | .next t => t
  | .fault _ | .refused _ => s

/-! ### Well-formedness refuses what is ill-formed -/

theorem test_wf_hunt_refuses_no_clock : (Instr.huntSync []).wf = false := by decide
theorem test_wf_frame_end_refuses_no_clock : (Instr.frameEnd ⟨[], 0⟩).wf = false := by decide
theorem test_wf_frame_end_refuses_long (hfs : List Bool) (h : hfs.length = 1025) : (Instr.frameEnd ⟨hfs, 0⟩).wf = false := by
  simp [Instr.wf, Config.frameClocks, h]
theorem test_wf_slip_refuses_no_clock : (Instr.slip []).wf = false := by decide
theorem test_wf_slip_refuses_loss_count (hfs : List Bool) (h : hfs.length = 3072) : (Instr.slip hfs).wf = false := by
  simp [Instr.wf, Config.lossClocks, h]
theorem test_wf_loss_refuses_no_clock : (Instr.highwayLoss []).wf = false := by decide
theorem test_wf_loss_refuses_long (hfs : List Bool) (h : hfs.length = 3073) : (Instr.highwayLoss hfs).wf = false := by
  simp [Instr.wf, Config.lossClocks, h]
theorem test_wf_inbound_refuses_no_bit :
    (Instr.inboundByte []).wf = false ∧ (Instr.badFrame []).wf = false ∧ (Instr.requestArrival []).wf = false
      ∧ (Instr.txBlock []).wf = false ∧ (Instr.refBlock []).wf = false := by decide
theorem test_wf_inbound_refuses_nine_bits :
    (Instr.inboundByte (List.replicate 9 true)).wf = false ∧ (Instr.badFrame (List.replicate 9 true)).wf = false
      ∧ (Instr.requestArrival (List.replicate 9 true)).wf = false ∧ (Instr.txBlock (List.replicate 9 true)).wf = false
      ∧ (Instr.refBlock (List.replicate 9 true)).wf = false := by decide
theorem test_wf_outbound_refuses_no_byte : (Instr.outboundFrameComplete 0).wf = false := by decide
theorem test_wf_outbound_refuses_long : (Instr.outboundFrameComplete 1033).wf = false := by decide
theorem test_wf_admits_bounds :
    (Instr.huntSync [true]).wf && (Instr.slip [true]).wf && (Instr.frameEnd ⟨[true], 0⟩).wf && (Instr.highwayLoss [false]).wf
      && (Instr.inboundByte (List.replicate 8 true)).wf && (Instr.outboundFrameComplete 1032).wf = true := by decide

/-- No row of the table gives bits, so no word spells a command. -/
theorem test_decode_none : decodeTableWord 16 0 = none := by decide

/-! ### Arithmetic: the worked cases of sections 1.3 to 1.7 -/

/-- The history of the first worked case of section 1.3. -/
def hist1 (k : Nat) : Sample := [8000, -6000, 2000, 500].getD k 0

theorem test_estimate_worked : echoEstimate [12000, -4000, 1000, 0] [] 0 hist1 = 3723 := by decide +kernel
theorem test_update_worked :
    adaptFrom (residual 3900 3723) (14 + 5) hist1 0 [12000, -4000, 1000, 0] = [12001, -4001, 1000, 0] := by decide +kernel
theorem test_update_saturated_residual :
    adaptFrom (residual (-32000) 3723) (14 + 5) hist1 0 [12000, -4000, 1000, 0] = [11750, -3812, 938, -16] := by
  decide +kernel
theorem test_estimate_beyond_16_bits :
    echoEstimate (List.replicate 16 32767) [] 0 (fun _ => -32768) = -524272 := by decide +kernel
theorem test_equalizer_update_worked :
    adaptFrom 1192 (12 + 3) (fun k => [6000, -2000, 0, 300, 7100, -500, 40, 0].getD k 0) 0 [0, 0, 0, 0, 8192, 0, 0, 0]
      = [109, -36, 0, 5, 8321, -9, 1, 0] := by decide +kernel
theorem test_pass_through : equalize (passThroughTaps 32) (fun k => if k = 16 then -1234 else 77) = -1234 := by
  decide +kernel
theorem test_estimator_worked : powerStep 100 4000 = 103 ∧ powerStep 103 0 = 102 ∧ powerStep 0 1192 = 0 := by
  decide +kernel
theorem test_attributes_worked : erleValue 5000 300 = some 12 ∧ mseValue 40 64 = some 30 ∧ mseValue 40 63 = none := by
  decide +kernel
theorem test_survey_figures_worked :
    surveyFigures 96 [33554432, -201326592, 805306368, -1610612736, -3221225472, -2147483648, 1073741824, 100663296,
      -16777216] = ⟨112, 96, 6, 12⟩ ∧ appliedDelay 512 112 = 104 := by decide +kernel
theorem test_probe_first_steps :
    probeStep 0x7FFF = (false, 0x7FFE) ∧ probeStep 0x6000 = (false, 0x4000) ∧ probeStep 0x4000 = (true, 0x0001)
      ∧ probeStep 0x0001 = (false, 0x0002) := by decide +kernel

/-! ### History, pools and profiles -/

/-- The broken page list of the worked case of chapter 4. -/
def brokenPages : List Nat := [1275, 1276, 1277, 1278, 1279, 10, 11, 12, 13, 14]

theorem test_ring_addressing :
    historyAddress brokenPages 1000 = 64 * 10 + 40 ∧ historyAddress brokenPages 541 = 64 * 13 + 29
      ∧ historyAddress brokenPages (-359) = 64 * 1279 + 25 := by decide +kernel
theorem test_pages_needed :
    defaultProfile.pagesNeeded = 10
      ∧ { defaultProfile with nearTaps := 128, farTaps := 256, maxDelay := 2047 }.pagesNeeded = 37
      ∧ { defaultProfile with nearTaps := 16, farTaps := 0, maxDelay := 0 }.pagesNeeded = 2 := by decide +kernel
theorem test_bind_takes_room : call.freeTaps = 7520 ∧ call.freePages.length = 1270 ∧ (call.ch 0).pages = List.range 10 := by
  decide +kernel
theorem test_bad_fields :
    badField { defaultProfile with nearTaps := 72, farTaps := 300 } = some (1, 72)
      ∧ badField { defaultProfile with txLow := 300, txHigh := 200 } = some (13, 200)
      ∧ badField { defaultProfile with txLow := 0, txHigh := 100 } = some (12, 0)
      ∧ badField { defaultProfile with farTaps := 300, refWindow := 9 } = some (2, 300) := by decide +kernel

/-- The lag table of R144. -/
theorem test_survey_lags :
    surveyEntryFor 0 512 100 110 false false = ⟨0, 100, 108, 3, false, false⟩
      ∧ surveyEntryFor 0 2047 0 4000 true false = ⟨0, 0, 2044, 512, true, false⟩
      ∧ surveyEntryFor 0 512 700 50 false true = ⟨0, 512, 512, 1, false, true⟩ := by decide +kernel

/-! ### The highway -/

/-- Syncs A to E of the worked sequence of chapter 2: only the second correct spacing in a row acquires. -/
theorem test_acquisition_worked :
    let s := (((call.huntSync 1024).huntSync 1024).huntSync 1000).huntSync 1024
    s.highway.state = .hunt ∧ s.highway.goodRun = 1
      ∧ (s.huntSync 1024).highway.state = .synced ∧ ((s.huntSync 1024).ch 0).echo.guard = 64
      ∧ (s.huntSync 1024).highway.drive[12] = some 0 := by decide +kernel

/-- A sync is a rise of the frame sync input (R18): a level held high is none, a pulse of three clocks is one at its first. -/
theorem test_sync_is_a_rise :
    syncAtLast true [true] = false ∧ syncAtLast false [true] = true ∧ syncAtLast true [true, true, false, true] = true
      ∧ syncAtLast false [true, true, true] = false ∧ noSync true [true, true, false, false] = true := by decide

/-- The receive data of slot 1 stands at bit counts 16 to 31, most significant bit first, and slot 63 ends the frame. -/
theorem test_receive_data :
    let hrd : BitVec 1024 := (0x05E6 : BitVec 1024) <<< 992 ||| 0x8001
    slotSample hrd 1 = 1510 ∧ slotSample hrd 0 = 0 ∧ slotSample hrd 63 = -32767 := by decide +kernel

/-- The transmit data of a slot driven with 1510, at its first and sixth bit counts, and of an undriven one. -/
theorem test_transmit_data :
    let h (n : Nat) : Highway := ((call.setDrive 12 1510).highway : Highway) |> fun h => { h with bitCount := n }
    (h 192).htd = some false ∧ (h 197).htd = some true ∧ (h 208).htd = none ∧ (h 1024).htd = none := by decide +kernel

/-- Sync F, then the late sync G: the held sample is used again, the slip is counted and the guard is set anew. -/
theorem test_turn_then_slip :
    let t := (turn (turn (synced call) 0 12 (some 1510)) 0 12 none).ch 0
    t.writeIndex = 2 ∧ t.heldRx = 1510 ∧ t.echo.guard = 63 ∧ t.quality.slipTurns = 1 ∧ t.eq.flags.slip = true := by
  decide +kernel

/-! ### The link -/

/-- The check over 0x31..0x39 (R190). -/
theorem test_check_value : checkOf [0x31, 0x32, 0x33, 0x34, 0x35, 0x36, 0x37, 0x38, 0x39] = 0x29B1 := by decide +kernel

/-- A frame read back, and one with a damaged tag discarded. -/
theorem test_frame_read_back :
    parseFrame (frameBytes (req 0x15 3 [512, 1])) = .complete (req 0x15 3 [512, 1]) []
      ∧ parseFrame ((frameBytes (req 0x1D 5 [])).set 3 0xC3) = .bad := by decide +kernel

/-- The damaged frame of the worked sequence of section 11.3: the second pass holds the bytes from the false start. -/
theorem test_damaged_frame :
    let damaged := (frameBytes (req 0x1D 5 [])).set 3 0xC3
    let t := after call (exec (.badFrame (byteBits (damaged.getLastD 0))) (holding call damaged.dropLast))
    t.device.linkBadFrames = 1 ∧ t.link.rxState = .header ∧ t.link.rxBytes = damaged.drop 3 := by decide +kernel

/-- Frame 1's second check byte and frame 2's start byte make a length above 1024: the second false frame of that sequence. -/
theorem test_damaged_frame_second_pass :
    let damaged := (frameBytes (req 0x1D 5 [])).set 3 0xC3
    let t := after call (exec (.badFrame (byteBits (damaged.getLastD 0))) (holding call damaged.dropLast))
    let u := after call (exec (.badFrame (byteBits 0xC3)) t)
    u.device.linkBadFrames = 2 ∧ u.link.rxState = .header ∧ u.link.rxBytes = [0xC3] := by decide +kernel

/-- A byte clocked in two windows is not one byte: the rise of NCS discards its first bits (R188). -/
theorem test_incomplete_byte_discarded :
    let t := after call (exec (.inboundByte [true, true, false]) call)
    let u := after call (exec .chipSelectRise t)
    t.link.spiBits = [true, true, false] ∧ u.link.spiBits = [] ∧ u.link.rxBytes = []
      ∧ (after call (exec (.inboundByte [false, false, false, true, true]) t)).link.rxBytes = [0xC3] := by decide +kernel

/-- A start byte cut short is sent again whole: the frame has begun, with nothing of it sent (R188). -/
theorem test_cut_start_byte :
    let cut := after call (exec (.inboundByte [true]) (after call (exec .arbiterChoice call)))
    let t := after call (exec .chipSelectRise cut)
    let u := after call (exec (.outboundFrameComplete 1) t)
    (t.link.outFrame.map (·.position)) = some 0 ∧ (u.link.outFrame.map (·.position)) = some 1 ∧ u.link.sdo = some 0xC3
      ∧ u.link.notices = [] := by decide +kernel

/-- SDO carries the frame of STARTED most significant bit first: the start byte 0xC3 and the kind 0x52, and after one byte sent
the kind from its first bit on; nothing is fixed before the choice, and filler is eight bits 0 (R188, R190, R208). -/
theorem test_sdo_bits :
    let t := after call (exec .arbiterChoice call)
    let u := after call (exec (.outboundFrameComplete 1) t)
    let idle : State := { call with link := { call.link with notices := [], attn := false } }
    t.link.outBits.take 16 = [true, true, false, false, false, false, true, true,
        false, true, false, true, false, false, true, false]
      ∧ u.link.outBits.take 8 = [false, true, false, true, false, false, true, false] ∧ call.link.sdoBit 0 = none
      ∧ (after call (exec .arbiterChoice idle)).link.outBits = List.replicate 8 false := by decide +kernel

/-- A filler byte cut short is sent again whole in the next window, though a notice waits by then (R188). -/
theorem test_cut_filler_byte :
    let idle : State := { call with link := { call.link with notices := [], attn := false } }
    let cut := after call (exec (.inboundByte [true]) (after call (exec .arbiterChoice idle)))
    let t := (after call (exec .chipSelectRise cut)).raiseLink .badFrame 0 0
    let u := after call (exec .arbiterChoice t)
    let v := after call (exec .arbiterChoice u)
    t.link.filler = .due ∧ u.link.sdo = some 0 ∧ u.link.outFrame = none ∧ v.link.sdo = some 0xC3 := by decide +kernel

/-- TAPS_READ by cursor: 30 taps from 40 of 64 are cut to 24 and the cursor comes to 0 (chapter 6). -/
theorem test_cursor_wraps :
    let s := ask (callWith fun ch => setCursor ch .near 40) (req 0x17 0 [0, 0xFFFF, 30])
    let t := after s (exec .tapsRead s)
    cursorOf (t.ch 0) .near = 0 ∧ (t.link.replies.map (·.code)) = [.adjusted] := by decide +kernel

/-- A starved turn counts one and goes to PRIMING (R79). -/
theorem test_starve :
    let ch := starve { call.ch 0 with tx := { (call.ch 0).tx with state := .running } }
    ch.tx.state = .priming ∧ ch.counters.txSamplesStarved = 1 ∧ ch.eq.flags.starved = true := by decide +kernel

/-- References LATE and UNKNOWN across the wrap (R135): newest 3, then 65534 is 5 behind and 5 is ahead. -/
theorem test_reference_classes :
    let ch := { call.ch 0 with eq := { (call.ch 0).eq with nextSeq := 4, issued := true } }
    classifyRef ch 65534 = .isLate ∧ classifyRef ch 5 = .isUnknown := by decide +kernel

/-- A notice raised again keeps its place, takes the new content and counts one more, up to 255 (R198). -/
theorem test_notice_coalesces :
    placeNotice 0 (.txLow 3) [⟨0, 255, .txLow 9⟩, ⟨1, 1, .txLow 9⟩] = [⟨0, 255, .txLow 3⟩, ⟨1, 1, .txLow 9⟩] := by
  decide +kernel

/-! ### Witnesses: the power-up state, the highway and the turns -/

/-- Boundary values of the idle step's five clauses. -/
theorem witness_EmptyQueueIsOneBitClock :
    (State.reset.setNrst true).pending = [] ∧ (State.reset.setNrst true).nrstLow = true
      ∧ State.reset.highway.state ≠ .synced ∧ State.reset.highway.reference = false ∧ State.reset.nrstLow = false
      ∧ (call.huntRun 1).pending = [] ∧ (call.huntRun 1).highway.reference = true
      ∧ (call.huntRun 1).highway.state ≠ .synced ∧ (clockedTo 3070 true (synced call)).highway.bitCount < 3071
      ∧ (clockedTo 3071 true (synced call)).highway.bitCount = 3071
      ∧ (clockedTo 3071 true (synced call)).highway.state = .synced := by decide +kernel

theorem witness_CommandsKeepPending : ∃ t, exec (.huntSync [true]) { call with pending := [.info] } = .next t :=
  next_of_completes (by decide +kernel)

theorem witness_HeldLowStandsStill :
    (call.setNrst true).nrstLow = true ∧ Instr.info ≠ .powerUp ∧ Instr.info ≠ .nrstHeldLow := by decide +kernel

/-- ATTN is as due in the call. -/
theorem attn_call : AttnFollows call := by unfold AttnFollows; decide +kernel

/-- The input, found low, rises at the next bit clock. -/
theorem sync_next {s : State} (h : s.highway.hfs = false) : SyncComes s [true] :=
  (syncAtLast_iff _ _).1 (by rw [h]; rfl)

/-- Whatever level was found last, the input falls or stays low and then rises. -/
theorem sync_after_low (s : State) : SyncComes s [false, true] :=
  (syncAtLast_iff _ _).1 (by cases s.highway.hfs <;> rfl)

theorem attn_clocked {s : State} (h : AttnFollows s) (n : Nat) (level : Bool) : AttnFollows (clockedTo n level s) := h

theorem attn_hunt : AttnFollows (call.huntRun 0) := by unfold AttnFollows; decide +kernel

/-- Every boundary of the spacing: no reference, 1023 and 1025, the count held at 3072, and 1024 from run 0. -/
theorem witness_HuntSyncMeasuresSpacing :
    let s (n : Nat) := clockedTo n false (call.huntRun 0)
    AttnFollows call ∧ (∀ n, AttnFollows (s n)) ∧ call.nrstLow = false ∧ call.highway.state ≠ .synced
      ∧ (∀ n, SyncComes (s n) [true] ∧ SyncComes (clockedTo n true (call.huntRun 0)) [false, true]) ∧ SyncComes call [true]
      ∧ ¬ (call.highway.reference = true ∧ min (call.highway.bitCount + 1) 3072 = 1024)
      ∧ ¬ ((s 1022).highway.reference = true ∧ min ((s 1022).highway.bitCount + 1) 3072 = 1024)
      ∧ ¬ ((s 1024).highway.reference = true ∧ min ((s 1024).highway.bitCount + 1) 3072 = 1024)
      ∧ ¬ ((s 3072).highway.reference = true ∧ min ((s 3072).highway.bitCount + 1) 3072 = 1024)
      ∧ (s 1023).highway.reference = true ∧ (s 1023).highway.bitCount + 1 = 1024 ∧ (s 1023).highway.goodRun ≠ 1
      ∧ (s 1022).highway.bitCount + 2 = 1024 :=
  ⟨attn_call, fun n => attn_clocked (s := call.huntRun 0) attn_hunt n false, by decide +kernel, by decide +kernel, fun _ => ⟨sync_next rfl, sync_after_low _⟩,
    sync_next rfl, by decide +kernel⟩

theorem witness_AcquisitionCompletes :
    let s := clockedTo 1023 false (call.huntRun 1)
    s.nrstLow = false ∧ s.highway.state ≠ .synced ∧ SyncComes s [true] ∧ s.highway.reference = true
      ∧ s.highway.bitCount + 1 = 1024 ∧ s.highway.goodRun = 1 :=
  ⟨by decide +kernel, by decide +kernel, sync_next rfl, by decide +kernel⟩

/-- The slot map of the call. -/
theorem slotMap_call : SlotMap (synced call) := by
  have h : ∀ c : ChanId, (((synced call).ch c).slot.isNone = decide (((synced call).ch c).state = .free))
      ∧ ∀ sl : SlotId, decide (((synced call).ch c).slot = some sl) = decide ((synced call).slotOwner sl = some c) := by
    decide +kernel
  intro c
  obtain ⟨h1, h2⟩ := h c
  constructor
  · rw [← Option.isNone_iff_eq_none, h1]; simp
  · intro sl
    have := h2 sl
    exact decide_eq_decide.1 this

/-- Surveys of a state whose unit is empty are as R143 says. -/
theorem surveyUnits_of_empty {s : State} (hq : s.dsu.queue = []) (hu : ∀ i, s.dsu.unit i = none)
    (hs : ∀ c, (s.ch c).survey = .noSurvey) : SurveyUnits s where
  queued c := by simp [hs c, hq]
  running c := by simp [hs c, hu]
  queueOnce := by simp [hq]
  unitOnce i j k l h := by simp [hu i] at h
  opened c h := absurd (hs c) h
  queueLags e h := by simp [hq] at h
  unitLags i k h := by simp [hu i] at h
  unitOk i k h := by simp [hu i] at h

theorem surveyUnits_call : SurveyUnits (synced call) :=
  surveyUnits_of_empty (by decide +kernel) (by decide +kernel) (by decide +kernel)

/-- An OPEN, a DRAINING and a HALTED channel, and unmapped slots, at a frame end; the drain at its last frames. -/
theorem witness_FrameEndTakesTurns :
    (synced call).nrstLow = false ∧ (synced call).highway.state = .synced
      ∧ (clockedTo 1023 false (synced call)).highway.bitCount + 1 = 1024 ∧ SyncComes (clockedTo 1023 false (synced call)) [true]
      ∧ (clockedTo 1022 true (synced call)).highway.bitCount + 2 = 1024
      ∧ SyncComes (clockedTo 1022 true (synced call)) [false, true]
      ∧ SlotMap (synced call) ∧ SurveyUnits (synced call) ∧ ((synced call).ch 0).state = .opened
      ∧ ((synced call).ch 0).slot = some 12 ∧ ((synced call).ch 1).state = .free
      ∧ (synced call).slotOwner 13 = none :=
  ⟨by decide +kernel, by decide +kernel, by decide +kernel, sync_next rfl, by decide +kernel, sync_after_low _, slotMap_call,
    surveyUnits_call, by decide +kernel⟩

/-- The call DRAINING, with its last frame but one and its last frame to come. -/
def draining (count : Nat) (refs : List PendingEntry) : State :=
  synced (callWith fun ch =>
    { ch with state := .draining, drainCount := count, eq := { ch.eq with pendingRefs := refs, nextSeq := 1, issued := true } })

theorem slotMap_draining (count : Nat) (refs : List PendingEntry) : SlotMap (draining count refs) := by
  intro c
  obtain ⟨h1, h2⟩ := slotMap_call c
  by_cases hc : c = 0
  · subst hc
    refine ⟨?_, fun sl => (h2 sl)⟩
    exact ⟨fun h => absurd h (by simp [draining, synced, callWith, call, State.admitCall, boundChannel, State.modCh,
      State.ch, State.setCh, State.setSlot]), fun h => by
        simp [draining, synced, callWith, State.modCh, State.ch, State.setCh] at h⟩
  · have e : (draining count refs).ch c = (synced call).ch c := by
      have : (0 : Nat) ≠ c.val := fun h => hc (Fin.ext h.symm)
      simp [draining, synced, callWith, State.modCh, State.ch, State.setCh, this]
    rw [e]
    exact ⟨h1, h2⟩

theorem surveyUnits_draining (refs : List PendingEntry) : SurveyUnits (draining 798 refs) ∧ SurveyUnits (draining 799 refs) := by
  have h : ∀ n, ∀ c : ChanId, ((draining n refs).ch c).survey = .noSurvey := by
    intro n c
    have hcall : ∀ c : ChanId, (call.ch c).survey = .noSurvey := by decide +kernel
    by_cases hc : c = 0
    · subst hc
      have := hcall 0
      simpa [draining, synced, callWith, State.modCh, State.ch, State.setCh] using this
    · have e : (0 : Nat) ≠ c.val := fun h => hc (Fin.ext h.symm)
      have := hcall c
      simpa [draining, synced, callWith, State.modCh, State.ch, State.setCh, Vector.getElem_set, e] using this
  have hu : ∀ i, call.dsu.unit i = none := by decide +kernel
  exact ⟨surveyUnits_of_empty rfl hu (h 798), surveyUnits_of_empty rfl hu (h 799)⟩

/-- A drain one frame before and at its 800th frame meets the premises of FRAME_END and SLIP. -/
theorem witness_FrameEndTakesTurns_draining :
    SlotMap (draining 798 [entry 0]) ∧ SlotMap (draining 799 [entry 0]) ∧ SurveyUnits (draining 798 [entry 0])
      ∧ SurveyUnits (draining 799 [entry 0]) ∧ ((draining 799 [entry 0]).ch 0).drainCount + 1 = 800
      ∧ ((draining 798 [entry 0]).ch 0).drainCount + 1 ≠ 800 ∧ ((draining 798 [entry 0]).ch 0).state = .draining :=
  ⟨slotMap_draining _ _, slotMap_draining _ _, (surveyUnits_draining _).1, (surveyUnits_draining _).2,
    by decide +kernel, by decide +kernel, by decide +kernel⟩

/-- Waiting notices that the work of the channels may touch and that it may not: kinds TX_LOW and TX_HIGH of an OPEN channel,
a DRAINED at the 800th frame and before it, another channel's, the device's. -/
theorem witness_FrameEndTakesTurns_notices :
    touchedByWork (synced call) ⟨chanByte 0, 1, .txLow 3⟩ = true ∧ touchedByWork (synced call) ⟨chanByte 0, 1, .txHigh 3⟩ = false
      ∧ touchedByWork (draining 799 [entry 0]) ⟨chanByte 0, 1, .drained .empty 0⟩ = true
      ∧ touchedByWork (draining 798 [entry 0]) ⟨chanByte 0, 1, .drained .empty 0⟩ = false
      ∧ touchedByWork (synced call) ⟨chanByte 1, 1, .txLow 3⟩ = false
      ∧ touchedByWork (synced call) ⟨0xFF, 1, .started⟩ = false := by decide +kernel

/-- A slip at the bit counts 1, 1023, 1025 and 3071. -/
theorem witness_SlippedFrameEnd :
    SlotMap (synced call) ∧ SurveyUnits (synced call) ∧ (synced call).nrstLow = false
      ∧ (synced call).highway.state = .synced ∧ ((synced call).ch 0).state = .opened
      ∧ ((synced call).ch 0).slot = some 12 ∧ ((synced call).ch 0).eq.outputs.length + 1 ≠ ((synced call).ch 0).params.blockSize
      ∧ (∀ n, SyncComes (clockedTo n false (synced call)) [true])
      ∧ ∀ n ∈ [0, 1022, 1024, 3070], (clockedTo n false (synced call)).highway.bitCount + 1 < 3072
        ∧ (clockedTo n false (synced call)).highway.bitCount + 1 ≠ 1024 :=
  ⟨slotMap_call, surveyUnits_call, by decide +kernel, by decide +kernel, by decide +kernel, by decide +kernel,
    by decide +kernel, fun _ => sync_next rfl, by decide +kernel⟩

/-- At bit count 3072 the input low, held high, and rising. -/
theorem witness_HighwayLossTaken :
    let s (level : Bool) := clockedTo 3071 level (draining 3 [entry 0])
    NoSync (s false) [false] ∧ NoSync (s true) [true] ∧ SyncComes (s false) [true] ∧ (s true).nrstLow = false
      ∧ (s true).highway.state = .synced ∧ (s true).highway.bitCount < 3072 ∧ (s true).highway.bitCount + 1 = 3072
      ∧ ((s true).ch 0).state = .draining ∧ ((s true).ch 1).state ≠ .draining :=
  ⟨(noSync_iff _ _).1 (by decide +kernel), (noSync_iff _ _).1 (by decide +kernel), sync_next rfl, by decide +kernel⟩

/-- The pages of the call are where R60 says. -/
theorem pagePlaces_call : PagePlaces (synced call) := by
  have hp : ∀ c : ChanId, ((synced call).ch c).pages = if c = 0 then (List.range 1280).take 10 else [] := by decide +kernel
  have hf : (synced call).freePages = (List.range 1280).drop 10 := by decide +kernel
  constructor
  · intro p
    have hs : ∑ c : ChanId, ((synced call).ch c).pages.count p = ((List.range 1280).take 10).count p := by
      rw [Finset.sum_eq_single 0]
      · rw [hp 0, if_pos rfl]
      · intro c _ hc
        rw [hp c, if_neg hc]; rfl
      · intro h
        exact absurd (Finset.mem_univ _) h
    rw [hs, hf, Nat.add_comm, ← List.count_append, List.take_append_drop]
    by_cases h : p < 1280
    · rw [if_pos h]
      exact List.count_eq_one_of_mem List.nodup_range (List.mem_range.2 h)
    · rw [if_neg h]
      exact List.count_eq_zero_of_not_mem (fun hm => h (List.mem_range.1 hm))
  · intro c hc
    rw [hp c]
    by_cases h0 : c = 0
    · subst h0
      have : ((synced call).ch 0).state = .opened := by decide +kernel
      rw [this] at hc; cases hc
    · rw [if_neg h0]

theorem memoryCanonical_call : MemoryCanonical (synced call) := by
  unfold MemoryCanonical
  decide +kernel

theorem witness_DrivenSampleIsInHistory :
    SlotMap (synced call) ∧ PagePlaces (synced call) ∧ MemoryCanonical (synced call) ∧ (synced call).nrstLow = false
      ∧ (∀ c : ChanId, ((synced call).ch c).state = .opened → ((synced call).ch c).pages ≠ [])
      ∧ (∃ t, exec (.frameEnd ⟨[true], 100⟩) (clockedTo 1023 false (synced call)) = .next t)
      ∧ ∃ t, exec (.slip [true]) (clockedTo 1022 false (synced call)) = .next t :=
  ⟨slotMap_call, pagePlaces_call, memoryCanonical_call, by decide +kernel, by decide +kernel,
    next_of_completes (by decide +kernel), next_of_completes (by decide +kernel)⟩

/-- The last position of the second of two pages, below index 0; the 128 samples of their ring; lag 5 of input position 3. -/
theorem witness_DrivenSampleIsInHistory_addressing :
    127 < 64 * [7, 3].length ∧ ((64 * [7, 3].length : Nat) : Int) ∣ -1 - (127 : Nat) ∧ [7, 3][127 / 64]? = some 3
      ∧ memWf [] = true ∧ [7, 3].Nodup ∧ 1022 < 1024 ∧ (1024 : Int) ∣ ((3 : Nat) : Int) - (5 : Nat) - (1022 : Nat) := by
  decide +kernel

/-- The call at a boundary where a strike is due. -/
def striking (strikes : Nat) (k : Option Checkpoint) : State :=
  callWith fun ch => { ch with
    echo := { ch.echo with mode := .track, strikes := strikes, checkpoint := k }
    quality := { ch.quality with pRx := 16, pRes := 32 } }

/-- Boundary 5 of the worked sequence Three Strikes (section 6.6): its EQ_BLOCK carries TRACK, and the channel is left in HOLD
with the checkpoint's taps and D 104, strikes 0, one divergence counted and DIVERGED raised with CHECKPOINT and 104. -/
theorem test_three_strikes_boundary_5 :
    let saved : Checkpoint := ⟨List.replicate 64 7, List.replicate 64 9, 104⟩
    let t := boundary ((striking 2 (some saved)).modCh 0 fun ch =>
      { ch with quality := { ch.quality with pRx := 2200, pRes := 6000 } }) 0
    t.link.dataQueue.map (·.echoMode) = [.track] ∧ (t.ch 0).echo.mode = .hold ∧ (t.ch 0).echo.strikes = 0
      ∧ (t.ch 0).echo.near = saved.near ∧ (t.ch 0).echo.far = saved.far ∧ (t.ch 0).echo.delay = 104
      ∧ (t.ch 0).counters.divergeEvents = 1 ∧ ⟨chanByte 0, 1, .diverged .checkpoint 104⟩ ∈ t.link.notices := by decide +kernel

/-- No strike due at P_rx 15 or P_res 2 P_rx - 1; a second strike; a third with and without a checkpoint. -/
theorem witness_DivergenceRestores :
    let due (s : State) : Prop := (s.ch 0).params.divergenceGuard = true ∧ (s.ch 0).echo.mode ≠ .hold
      ∧ (s.ch 0).echo.guard = 0 ∧ 16 ≤ (s.ch 0).quality.pRx ∧ 2 * (s.ch 0).quality.pRx ≤ (s.ch 0).quality.pRes
    ¬ due call ∧ ¬ due ((striking 1 none).modCh 0 fun ch => { ch with quality := { ch.quality with pRes := 31 } })
      ∧ due (striking 1 none) ∧ ((striking 1 none).ch 0).echo.strikes + 1 < 3
      ∧ due (striking 2 none) ∧ 3 ≤ ((striking 2 none).ch 0).echo.strikes + 1
      ∧ ((striking 2 none).ch 0).echo.checkpoint = none ∧ due (striking 2 (some ⟨[], [], 0⟩))
      ∧ ((striking 2 (some ⟨[], [], 0⟩)).ch 0).echo.checkpoint = some ⟨[], [], 0⟩ := by decide +kernel

/-- The call in TRACK with estimators, the attributes checked and armed or not. -/
def measured (pRx pErr : Nat) (arm : Arming) : State :=
  callWith fun ch => { ch with
    echo := { ch.echo with mode := .track }
    eq := { ch.eq with mode := .track }
    quality := { ch.quality with pRx := pRx, pErr := pErr, errorCount := 64, erleArm := arm, mseArm := arm } }

/-- ERLE 21 and MSE 18 fall below 24 and 21; 24 and 21 neither fall nor rise; 27 and 24 rise. -/
theorem witness_QualityCrossings :
    ((measured 127 511 .armed).ch 0).erle = some 21 ∧ ((measured 127 511 .armed).ch 0).mse = some 18
      ∧ ((measured 255 255 .armed).ch 0).erle = some 24 ∧ ((measured 255 255 .disarmed).ch 0).mse = some 21
      ∧ ((measured 511 127 .disarmed).ch 0).erle = some 27 ∧ ((measured 511 127 .disarmed).ch 0).mse = some 24
      ∧ (call.ch 0).params.erleMin = 24 ∧ (call.ch 0).params.mseMin = 21
      ∧ ((measured 127 511 .armed).ch 0).echo.mode ≠ .train ∧ ((measured 127 511 .armed).ch 0).eq.mode = .track
      ∧ ((measured 127 511 .armed).ch 0).quality.erleArm = .armed
      ∧ ((measured 511 127 .disarmed).ch 0).quality.mseArm = .disarmed := by decide +kernel

/-! ### Witnesses: counts that have run out -/

/-- The call in TRAIN with its count at 0. -/
def trainedOut (extension : Option Nat) : State :=
  callWith fun ch => { ch with echo := { ch.echo with mode := .train, trainCount := 0, extension := extension } }

theorem witness_TrainCountAtZero :
    AttnFollows (trainedOut none) ∧ AttnFollows (trainedOut (some 1)) ∧ (trainedOut none).nrstLow = false
      ∧ ((trainedOut none).ch 0).state = .opened ∧ ((trainedOut none).ch 0).echo.mode = .train
      ∧ ((trainedOut none).ch 0).echo.trainCount = 0 ∧ ((trainedOut none).ch 0).echo.extension = none
      ∧ ((trainedOut (some 1)).ch 0).state = .opened ∧ ((trainedOut (some 1)).ch 0).echo.mode = .train
      ∧ ((trainedOut (some 1)).ch 0).echo.trainCount = 0 ∧ ((trainedOut (some 1)).ch 0).echo.extension = some 1 :=
  ⟨by unfold AttnFollows; decide +kernel, by unfold AttnFollows; decide +kernel, by decide +kernel⟩

/-- A survey of channel 0 at one lag, with PROBE and APPLY. -/
def survey0 : SurveyEntry := ⟨0, 16, 16, 1, true, true⟩

/-- Channel 0 surveyed by correlator 0 in a phase and with counts; channel 1 bound too, waiting or not. -/
def surveyed (k : Correlator) (queue : List SurveyEntry) : State :=
  let s := (call.admitCall 1 13 defaultProfile).modCh 0 fun ch => { ch with survey := .running }
  let s1 := s.modCh 1 fun ch => { ch with survey := if queue = [] then .noSurvey else .queued }
  { s1 with dsu := ⟨queue, if queue = [] then (Vector.replicate 4 none).set 0 (some k) else Vector.replicate 4 (some k)⟩ }

theorem witness_LeadInEndOpensWindow :
    let s := surveyed ⟨survey0, .leadIn, 2048, 0, 0, [0]⟩ []
    AttnFollows s ∧ s.nrstLow = false ∧ (s.ch 0).state = .opened ∧ s.dsu.unitOf 0 = some 0
      ∧ s.dsu.unit 0 = some ⟨survey0, .leadIn, 2048, 0, 0, [0]⟩ :=
  ⟨by unfold AttnFollows; decide +kernel, by decide +kernel⟩

/-- A window at 1024 with no survey waiting, and one with channel 1's waiting. -/
theorem witness_WindowEndRecords :
    let k : Correlator := ⟨survey0, .window, 2048, 1024, 0, [99999999999]⟩
    let s := surveyed k []
    let w := surveyed k [⟨1, 0, 0, 1, true, false⟩]
    NoIdleCorrelator s ∧ NoIdleCorrelator w ∧ s.nrstLow = false ∧ (s.ch 0).state = .opened ∧ (w.ch 0).state = .opened
      ∧ s.dsu.unitOf 0 = some 0 ∧ s.dsu.unit 0 = some k ∧ w.dsu.unitOf 0 = some 0 ∧ w.dsu.unit 0 = some k
      ∧ (∀ e ∈ s.dsu.queue, e.channel ≠ 0) ∧ (∀ e ∈ w.dsu.queue, e.channel ≠ 0) :=
  ⟨by unfold NoIdleCorrelator; decide +kernel, by unfold NoIdleCorrelator; decide +kernel, by decide +kernel⟩

theorem witness_DrainTimeoutHalts :
    (draining 800 [entry 0]).nrstLow = false ∧ ((draining 800 [entry 0]).ch 0).state = .draining
      ∧ ((draining 800 [entry 0]).ch 0).drainCount = 800 := by decide +kernel

/-! ### Witnesses: inbound and outbound bytes -/

/-- The call with its link changed and ATTN as due. -/
def linked (f : Link → Link) : State := (call.modLink f).settle

theorem attn_linked (f : Link → Link) : AttnFollows (linked f) := rfl

/-- The state with all but the last byte of a frame received. -/
def receiving (s : State) (f : Frame) : State := holding s (allButLast f)

theorem attn_holding {s : State} (h : AttnFollows s) (bytes : List Byte) : AttnFollows (holding s bytes) := h

theorem attn_bits {s : State} (h : AttnFollows s) (bits : List Bool) :
    AttnFollows (s.modLink fun l => { l with spiBits := bits }) := h

theorem attn_modCh {s : State} (h : AttnFollows s) (c : ChanId) (g : Channel → Channel) : AttnFollows (s.modCh c g) := h

theorem attn_receiving (g : Channel → Channel) (f : Frame) : AttnFollows (receiving (callWith g) f) :=
  attn_holding (attn_modCh attn_call 0 g) _

theorem completes_receiving {s : State} {f : Frame} (hs : s.nrstLow = false) (h : allButLast f ≠ [])
    (hp : parseFrame (allButLast f ++ [lastByte f]) = .complete f []) : Completes (receiving s f) (lastBits f) f :=
  ⟨hs, (Nat.zero_add _).trans (byteBits_length (lastByte f)), h, show parseFrame (allButLast f ++ [byteOfBits ([] ++ byteBits (lastByte f))]) = _ by
    rw [List.nil_append, byteOfBits_byteBits, hp]⟩

/-- Seven, eight and nine bits; a first byte that starts a frame, one that does not, and content that leaves a frame
incomplete. -/
theorem witness_ReceiverGathers :
    let s := holding call [0xC3]
    let three := call.modLink fun l => { l with spiBits := [true, true, false] }
    AttnFollows call ∧ AttnFollows s ∧ AttnFollows three ∧ call.nrstLow = false
      ∧ ([] ++ List.replicate 7 true).length < 8 ∧ 8 < (three.link.spiBits ++ List.replicate 6 true).length
      ∧ (three.link.spiBits ++ [false, false, false, true, true]).length = 8
      ∧ byteOfBits (three.link.spiBits ++ [false, false, false, true, true]) = 0xC3 ∧ call.link.rxBytes = []
      ∧ byteOfBits (call.link.spiBits ++ byteBits 0xC2) ≠ 0xC3 ∧ (call.link.spiBits ++ byteBits 0xC2).length = 8
      ∧ s.link.rxBytes ≠ []
      ∧ parseFrame (s.link.rxBytes ++ [byteOfBits (s.link.spiBits ++ byteBits 0xC3)]) = .incomplete .header :=
  ⟨attn_call, attn_holding attn_call _, attn_bits attn_call _, by decide +kernel⟩

/-- A bad frame with no start byte after its own; one whose next start byte begins a frame that is not complete, one whose
next start byte begins a further bad frame, and one whose next start byte begins a whole frame. -/
theorem witness_BadFrameIsDiscarded :
    let plain := (frameBytes (req 0x1D 5 [])).set 3 0x11
    let nested := (frameBytes (req 0x1D 5 [])).set 3 0xC3
    let outer (inner : List Byte) : List Byte :=
      [0xC3, 0x20, 0, 0, BitVec.ofNat 8 (inner.length + 1), 0] ++ [0x11] ++ inner ++ [0x22, 0x33]
    let inner := frameBytes (req 0x1D 5 [])
    let good := outer inner
    let bad := [0xC3, 0x20, 0, 0, 4, 0, 0xC3, 1, 2, 3, 4, 5]
    (plain = 0xC3 :: (plain.dropLast.drop 1 ++ [plain.getLastD 0]) ∧ parseFrame plain = .bad
      ∧ (0xC3 : Byte) ∉ plain.dropLast.drop 1 ++ [plain.getLastD 0]
      ∧ (holding call plain.dropLast).link.rxBytes = 0xC3 :: plain.dropLast.drop 1
      ∧ (holding call plain.dropLast).link.spiBits.length + (byteBits (plain.getLastD 0)).length = 8
      ∧ byteOfBits (byteBits (plain.getLastD 0)) = plain.getLastD 0)
    ∧ (nested = 0xC3 :: (nested.dropLast.drop 1 ++ [nested.getLastD 0]) ∧ parseFrame nested = .bad
      ∧ nested.dropLast.drop 1 ++ [nested.getLastD 0] = [0x1D, 5] ++ 0xC3 :: nested.drop 4
      ∧ (0xC3 : Byte) ∉ ([0x1D, 5] : List Byte) ∧ parseFrame (0xC3 :: nested.drop 4) = .incomplete .header)
    ∧ (parseFrame bad = .bad
      ∧ bad.drop 1 = [0x20, 0, 0, 4, 0] ++ 0xC3 :: ([1, 2, 3, 4] ++ [5])
      ∧ (0xC3 : Byte) ∉ ([0x20, 0, 0, 4, 0] : List Byte) ∧ parseFrame (0xC3 :: ([1, 2, 3, 4] ++ [5])) = .bad)
    ∧ (parseFrame good = .bad
      ∧ good.drop 1 = [0x20, 0, 0, 9, 0, 0x11] ++ 0xC3 :: (inner.dropLast.drop 1 ++ inner.getLastD 0 :: [0x22, 0x33])
      ∧ (0xC3 : Byte) ∉ ([0x20, 0, 0, 9, 0, 0x11] : List Byte)
      ∧ parseFrame (0xC3 :: (inner.dropLast.drop 1 ++ [inner.getLastD 0])) = .complete (req 0x1D 5 []) []
      ∧ (0xC3 : Byte) ∉ ([0x22, 0x33] : List Byte)) := by
  decide +kernel

/-- A whole frame found in the second pass with a further start byte after it, and the rows that take its bytes (R192). -/
theorem witness_BadFrameIsDiscarded_pass :
    let inner := frameBytes (req 0x1D 5 [])
    let good := [0xC3, 0x20, 0, 0, 11, 0] ++ [0x11] ++ inner ++ [0x22, 0xC3, 0x1D, 5]
    parseFrame good = .bad ∧ parseFrame good.dropLast = .incomplete .body
      ∧ good.drop 1 = [0x20, 0, 0, 11, 0, 0x11] ++ 0xC3 :: (inner.dropLast.drop 1 ++ inner.getLastD 0 :: [0x22, 0xC3, 0x1D, 5])
      ∧ (0xC3 : Byte) ∉ ([0x20, 0, 0, 11, 0, 0x11] : List Byte) ∧ (0xC3 : Byte) ∈ ([0x22, 0xC3, 0x1D, 5] : List Byte)
      ∧ parseFrame (0xC3 :: (inner.dropLast.drop 1 ++ [inner.getLastD 0])) = .complete (req 0x1D 5 []) []
      ∧ (let t := after call (exec (.badFrame (byteBits 5)) (holding call good.dropLast))
        t.link.requests = [req 0x1D 5 []] ∧ t.link.rxBytes = [0xC3, 0x1D, 5] ∧ t.device.linkBadFrames = 1) := by
  decide +kernel

/-- A request completing with 15 and with 16 requests waiting. -/
theorem witness_RequestJoinsOrDrops :
    let f := req 0x1D 5 []
    let s (n : Nat) := receiving (linked fun l => { l with requests := List.replicate n f }) f
    Completes (s 15) (lastBits f) f ∧ AttnFollows (s 15) ∧ (s 15).link.requests.length < 16
      ∧ Completes (s 16) (lastBits f) f ∧ AttnFollows (s 16) ∧ 16 ≤ (s 16).link.requests.length
      ∧ f.kind ≠ 0x20 ∧ f.kind ≠ 0x21 :=
  ⟨completes_receiving rfl (by decide +kernel) (by decide +kernel), rfl, by decide +kernel,
    completes_receiving rfl (by decide +kernel) (by decide +kernel), rfl, by decide +kernel⟩

/-- A channel of block size 10, with a further change. -/
def short (g : Channel → Channel) (ch : Channel) : Channel := g { ch with params := { ch.params with blockSize := 10 } }

/-- A TX_BLOCK of some samples. -/
def txFrame (channel : Byte) (n : Nat) : Frame := req 0x20 channel (List.replicate n 5)

/-- The call with so many samples waiting and TX_HIGH armed or not. -/
def filled (n : Nat) (high : Arming) (ch : Channel) : Channel :=
  { ch with tx := { ch.tx with queue := List.replicate n 1, highArm := high } }

/-- Channel 40; a FREE channel; 9 samples; levels 310 and 311 before; 240 and 241 after, TX_HIGH armed and disarmed. -/
theorem witness_TxBlockTakenOrDropped :
    (∀ g n, AttnFollows (receiving (callWith g) (txFrame 0 n)))
      ∧ (∀ g, Completes (receiving (callWith g) (txFrame 0 10)) (lastBits (txFrame 0 10)) (txFrame 0 10))
      ∧ (∀ g, Completes (receiving (callWith g) (txFrame 0 9)) (lastBits (txFrame 0 9)) (txFrame 0 9))
      ∧ (∀ g, Completes (receiving (callWith g) (txFrame 1 10)) (lastBits (txFrame 1 10)) (txFrame 1 10))
      ∧ (∀ g, Completes (receiving (callWith g) (txFrame 40 10)) (lastBits (txFrame 40 10)) (txFrame 40 10))
      ∧ (txFrame 0 10).kind = 0x20 ∧ 40 ≤ (txFrame 40 10).channel.toNat ∧ (txFrame 1 10).channel = chanByte 1
      ∧ (call.ch 1).state ≠ .opened ∧ (txFrame 0 10).channel = chanByte 0 ∧ (call.ch 0).state = .opened
      ∧ ((callWith (short id)).ch 0).params.blockSize = 10 ∧ (txFrame 0 9).payload.length ≠ 2 * 10
      ∧ (txFrame 0 10).payload.length = 2 * 10
      ∧ 320 < ((callWith (short (filled 311 .armed))).ch 0).tx.queue.length + 10
      ∧ ((callWith (short (filled 310 .armed))).ch 0).tx.queue.length + 10 ≤ 320
      ∧ ¬ (((callWith (short (filled 230 .armed))).ch 0).params.txHigh < 230 + 10)
      ∧ ((callWith (short (filled 231 .armed))).ch 0).params.txHigh < 231 + 10
      ∧ ((callWith (short (filled 231 .armed))).ch 0).tx.highArm = .armed
      ∧ ((callWith (short (filled 231 .disarmed))).ch 0).tx.highArm ≠ .armed :=
  ⟨fun g n => attn_receiving g _, fun g => completes_receiving rfl (by decide +kernel) (by decide +kernel),
    fun g => completes_receiving rfl (by decide +kernel) (by decide +kernel),
    fun g => completes_receiving rfl (by decide +kernel) (by decide +kernel),
    fun g => completes_receiving rfl (by decide +kernel) (by decide +kernel), by decide +kernel⟩

/-- A REF_BLOCK of 10 references, or of another number. -/
def refFrame (channel : Byte) (seq flags : Word) (n : Nat) : Frame :=
  req 0x21 channel (seq :: flags :: List.replicate n 5)

/-- A channel of block size 10 in some state with pending entries 0, 1 and on, and the next seq after them. -/
def pendingIn (state : ChanState) (refs : List PendingEntry) (ch : Channel) : Channel :=
  short (fun ch => { ch with
    state := state
    eq := { ch.eq with mode := .train, nextSeq := BitVec.ofNat 16 refs.length, issued := true, pendingRefs := refs } }) ch

/-- Channel 40; FREE and HALTED channels; 9 references; 32767 and 32768 behind the newest; ahead; and none issued. -/
theorem witness_RefBlockWithoutMatch :
    let newest (nextSeq seq : Word) := (nextSeq - 1 - seq).toNat
    (∀ g f, AttnFollows (receiving (callWith g) f))
      ∧ (∀ f ∈ [refFrame 40 0 0 10, refFrame 1 0 0 10, refFrame 0 0 0 10, refFrame 0 0 0 9, refFrame 0 32772 0 10,
          refFrame 0 32771 0 10, refFrame 0 4 0 10, refFrame 0 0xFFFF 0 10],
          f.kind = 0x21 ∧ ∀ g, Completes (receiving (callWith g) f) (lastBits f) f)
      ∧ 40 ≤ (refFrame 40 0 0 10).channel.toNat ∧ (refFrame 1 0 0 10).channel = chanByte 1 ∧ (call.ch 1).state = .free
      ∧ ((callWith (pendingIn .halted [])).ch 0).state = .halted ∧ (refFrame 0 0 0 10).channel = chanByte 0
      ∧ ((callWith (short id)).ch 0).state = .opened ∧ ((callWith (short id)).ch 0).params.blockSize = 10
      ∧ (refFrame 0 0 0 9).payload.length ≠ 4 + 2 * 10 ∧ (refFrame 0 0 0 10).payload.length = 4 + 2 * 10
      ∧ newest 4 32772 = 32767 ∧ newest 4 32771 = 32768 ∧ newest 4 4 = 65535
      ∧ ((callWith (short id)).ch 0).eq.pendingRefs = [] ∧ ((callWith (short id)).ch 0).eq.issued = false
      ∧ newest ((callWith (short id)).ch 0).eq.nextSeq 0xFFFF = 0
      ∧ (((callWith (short fun ch => { ch with eq := { ch.eq with nextSeq := 4, issued := true } })).ch 0).eq.issued
        = true) := by
  refine ⟨attn_receiving, fun f hf => ?_, by decide +kernel⟩
  have h : ∀ f ∈ [refFrame 40 0 0 10, refFrame 1 0 0 10, refFrame 0 0 0 10, refFrame 0 0 0 9, refFrame 0 32772 0 10,
      refFrame 0 32771 0 10, refFrame 0 4 0 10, refFrame 0 0xFFFF 0 10],
      f.kind = 0x21 ∧ allButLast f ≠ [] ∧ parseFrame (allButLast f ++ [lastByte f]) = .complete f [] := by decide +kernel
  exact ⟨(h f hf).1, fun g => completes_receiving rfl (h f hf).2.1 (h f hf).2.2⟩

/-- The middle entry of three of an OPEN channel, and the last entry of a DRAINING one. -/
theorem witness_RefBlockMatch :
    let s := callWith (pendingIn .opened [entry 0, entry 1, entry 2])
    let d := callWith (pendingIn .draining [entry 0])
    let f := refFrame 0 1 0 10
    let g := refFrame 0 0 0 10
    Completes (receiving s f) (lastBits f) f ∧ AttnFollows (receiving s f) ∧ Completes (receiving d g) (lastBits g) g
      ∧ AttnFollows (receiving d g) ∧ f.kind = 0x21 ∧ f.channel = chanByte 0 ∧ (s.ch 0).state = .opened
      ∧ f.payload.length = 4 + 2 * (s.ch 0).params.blockSize ∧ (s.ch 0).eq.pendingRefs = [entry 0] ++ entry 1 :: [entry 2]
      ∧ (∀ o ∈ [entry 0], o.seq ≠ f.word 0) ∧ (entry 1).seq = f.word 0 ∧ (d.ch 0).state = .draining
      ∧ (d.ch 0).eq.pendingRefs = [] ++ entry 0 :: [] ∧ (entry 0).seq = g.word 0 :=
  ⟨completes_receiving rfl (by decide +kernel) (by decide +kernel), attn_receiving _ _,
    completes_receiving rfl (by decide +kernel) (by decide +kernel), attn_receiving _ _, by decide +kernel⟩

/-- A reply waiting, for channel 0. -/
def reply0 : Reply := ⟨0x9D, 0, 7, .ok, [1]⟩

/-- An EQ_BLOCK waiting, of channel 0. -/
def block0 : EqBlock := ⟨0, 0, BlockFlags.clear, .hold, .hold, List.replicate 40 100⟩

/-- Something of each kind waiting alone, and nothing; a filler byte due. -/
theorem witness_ArbiterChoosesInOrder :
    (∀ f, AttnFollows (linked f)) ∧ (linked fun l => l).nrstLow = false ∧ (linked fun l => l).link.outFrame = none
      ∧ (linked fun l => l).link.filler ≠ .due ∧ (linked fun l => { l with filler := .due }).link.filler = .due
      ∧ (linked fun l => { l with replies := [reply0] }).link.replies = reply0 :: []
      ∧ (linked fun l => l).link.replies = [] ∧ (linked fun l => l).link.notices = ⟨0xFF, 1, .started⟩ :: []
      ∧ (linked fun l => { l with notices := [], dataQueue := [block0] }).link.notices = []
      ∧ (linked fun l => { l with notices := [], dataQueue := [block0] }).link.dataQueue = block0 :: []
      ∧ (linked fun l => { l with notices := [] }).link.notices = []
      ∧ (linked fun l => { l with notices := [] }).link.dataQueue = [] :=
  ⟨attn_linked, by decide +kernel⟩

/-- A frame in progress of each source, with nothing or its start byte sent, one byte short of its end and at it. -/
theorem witness_OutboundFrameEnds :
    ∀ source ∈ [OutSource.reply, .notice, .removed, .eqBlock 0 true, .eqBlock 0 false],
      ∀ sent ∈ [0, 1],
      let o : OutFrame := ⟨frameBytes (replyFrame reply0), sent, source⟩
      let s := linked fun l => { l with outFrame := some o }
      s.nrstLow = false ∧ s.link.outFrame = some o ∧ o.position < o.bytes.length ∧ 1 ≤ o.bytes.length - 2
        ∧ o.position + (o.bytes.length - 2) < o.bytes.length ∧ o.bytes.length ≤ o.position + o.bytes.length := by
  decide +kernel

/-! ### Witnesses: the requests -/

/-- The part is ready for a request while fewer than 16 replies wait. -/
theorem ready_ask {s : State} (f : Frame) (h1 : s.nrstLow = false) (h2 : s.link.replies.length < 16) :
    Ready (ask s f) f [] := ⟨h1, rfl, h2⟩

theorem ready_callWith (g : Channel → Channel) (f : Frame) : Ready (ask (callWith g) f) f [] :=
  ready_ask f rfl (show call.link.replies.length < 16 by decide +kernel)

theorem ready_call (f : Frame) : Ready (ask call f) f [] := ready_ask f rfl (by decide +kernel)

/-- Channel 0 in a channel state. -/
def inState (state : ChanState) (ch : Channel) : Channel := { ch with state := state }

/-- The kinds beside each range of R209. -/
theorem witness_UnknownKindAndInfo :
    (∀ f, Ready (ask call f) f []) ∧ (req 0x01 0xFF []).kind = 0x01 ∧ (req 0x01 0xFF []).payload = []
      ∧ ∀ k ∈ ([0x00, 0x08, 0x0F, 0x1E, 0x1F, 0x22, 0xFF] : List Byte), requestRow (req k 0 []).kind = .unknownKind :=
  ⟨ready_call, by decide +kernel⟩

theorem witness_ResetReturnsEveryBlock :
    Ready (ask call (req 0x02 0xFF [1])) (req 0x02 0xFF [1]) [] ∧ Ready (ask call (req 0x02 0xFF [0])) (req 0x02 0xFF [0]) []
      ∧ (req 0x02 0xFF [1]).kind = 0x02 ∧ (req 0x02 0xFF [1]).payload.length = 2 :=
  ⟨ready_call _, ready_call _, by decide +kernel⟩

/-- A PROFILE_WRITE of a slot with the default profile but for its near_taps. -/
def writeFrame (slot near : Word) : Frame :=
  req 0x03 0xFF [slot, near, 64, 512, 32, 40, 5, 9, 4, 8, 4, 80, 80, 240, 24, 21, 9, 3]

theorem near_out_of_range : ¬ InRange (writtenProfile (writeFrame 7 144)) := by
  intro h
  have e : (writtenProfile (writeFrame 7 144)).nearTaps = 144 := by decide +kernel
  have hn := h.near.2.1
  rw [e] at hn
  omega

/-- Slot indices 0, 1, 7 and 8, the lock on and off, and a near_taps of 16, 128 and 144. -/
theorem witness_ProfileWriteChecksThenStores :
    (∀ f, Ready (ask call f) f []) ∧ (∀ f, Ready (ask { call with lock := true } f) f [])
      ∧ (∀ k ∈ [0, 1, 7, 8], (writeFrame (.ofNat 16 k) 16).kind = 0x03 ∧ (writeFrame (.ofNat 16 k) 16).payload.length = 36
        ∧ (writeFrame (.ofNat 16 k) 16).value 0 = k)
      ∧ InRange (writtenProfile (writeFrame 1 16)) ∧ InRange (writtenProfile (writeFrame 7 128))
      ∧ ¬ InRange (writtenProfile (writeFrame 7 144)) :=
  ⟨ready_call, fun f => ready_ask f rfl (by decide +kernel), by decide +kernel,
    ⟨by decide +kernel, by decide +kernel, by decide +kernel, by decide +kernel, by decide +kernel, by decide +kernel,
      by decide +kernel, by decide +kernel, by decide +kernel⟩,
    ⟨by decide +kernel, by decide +kernel, by decide +kernel, by decide +kernel, by decide +kernel, by decide +kernel,
      by decide +kernel, by decide +kernel, by decide +kernel⟩,
    near_out_of_range⟩

theorem witness_ProfileReadReports :
    (∀ f, Ready (ask call f) f [])
      ∧ ∀ k ∈ [0, 7, 8], (req 0x04 0xFF [.ofNat 16 k]).kind = 0x04 ∧ (req 0x04 0xFF [.ofNat 16 k]).payload.length = 2
        ∧ (req 0x04 0xFF [.ofNat 16 k]).value 0 = k :=
  ⟨ready_call, by decide +kernel⟩

theorem witness_LockHoldsUntilPowerUp :
    (∀ f, Ready (ask call f) f []) ∧ (∀ f, Ready (ask { call with lock := true } f) f []) ∧ call.lock = false
      ∧ (req 0x05 0xFF []).kind = 0x05 ∧ (req 0x05 0xFF []).payload = [] ∧ Instr.huntSync [true] ≠ .powerUp
      ∧ Instr.huntSync [true] ≠ .nrstHeldLow ∧ ∃ t, exec (.huntSync [true]) { call with lock := true } = .next t :=
  ⟨ready_call, fun f => ready_ask f rfl (by decide +kernel), by decide +kernel, by decide +kernel, by decide +kernel,
    by decide +kernel, by decide +kernel, next_of_completes (by decide +kernel)⟩

theorem witness_SnapshotCopiesThenClears :
    (∀ f, Ready (ask call f) f []) ∧ (req 0x06 0xFF [1]).kind = 0x06 ∧ (req 0x06 0xFF [1]).payload.length = 2
      ∧ (req 0x06 0xFF [0]).payload.length = 2 :=
  ⟨ready_call, by decide +kernel⟩

/-- The selectors 0, 39, 40, 0xFFFE and 0xFFFF. -/
theorem witness_StatsReadReportsSet :
    (∀ f, Ready (ask call f) f [])
      ∧ ∀ k ∈ [0, 39, 40, 0xFFFE, 0xFFFF], (req 0x07 0xFF [.ofNat 16 k]).kind = 0x07
        ∧ (req 0x07 0xFF [.ofNat 16 k]).payload.length = 2 ∧ (req 0x07 0xFF [.ofNat 16 k]).value 0 = k :=
  ⟨ready_call, by decide +kernel⟩

/-- Slots 63 and 64; a channel not FREE; profiles 7 and 8; a slot taken; 159 and 160 taps; 9 and 10 pages. -/
theorem witness_BindAdmitsInOrder :
    (∀ f, Ready (ask call f) f []) ∧ (∀ n f, Ready (ask { call with freeTaps := n } f) f [])
      ∧ (∀ l f, Ready (ask { call with freePages := l } f) f [])
      ∧ (∀ w ∈ ([[64, 0], [63, 8], [63, 7], [12, 0]] : List (List Word)), (req 0x10 1 w).kind = 0x10
        ∧ (req 0x10 1 w).channel = chanByte 1 ∧ (req 0x10 1 w).payload.length = 4
        ∧ (req 0x10 1 w).value 0 = (w.getD 0 0).toNat ∧ (req 0x10 1 w).value 1 = (w.getD 1 0).toNat)
      ∧ (req 0x10 0 [63, 0]).channel = chanByte 0 ∧ (call.ch 0).state ≠ .free ∧ (call.ch 1).state = .free
      ∧ call.slotOwner 12 ≠ none ∧ call.slotOwner 63 = none
      ∧ (call.profile 7).nearTaps + (call.profile 7).farTaps + (call.profile 7).eqTaps = 160
      ∧ (max (call.profile 7).nearTaps ((call.profile 7).maxDelay + (call.profile 7).farTaps) + 63) / 64 + 1 = 10 :=
  ⟨ready_call, fun n f => ready_ask f rfl (show call.link.replies.length < 16 by decide +kernel),
    fun l f => ready_ask f rfl (show call.link.replies.length < 16 by decide +kernel), by decide +kernel⟩

theorem survey_call : (call.ch 0).survey = .noSurvey := by decide +kernel

theorem surveyUnits_synced {s : State} {f : Frame} (h : SurveyUnits (ask s f)) : SurveyUnits (ask (synced s) f) :=
  ⟨h.queued, h.running, h.queueOnce, h.unitOnce, h.opened, h.queueLags, h.unitLags, h.unitOk⟩

/-- No survey, whatever else of one channel's context is changed. -/
theorem surveyUnits_modCh {s : State} (hq : s.dsu.queue = []) (hu : ∀ i, s.dsu.unit i = none)
    (hs : ∀ c, (s.ch c).survey = .noSurvey) (g : Channel → Channel) (h : (g (s.ch 0)).survey = .noSurvey) (f : Frame) :
    SurveyUnits (ask (s.modCh 0 g) f) ∧ NoIdleCorrelator (ask (s.modCh 0 g) f) := by
  refine ⟨surveyUnits_of_empty hq hu fun c => ?_, .inl hq⟩
  show ((s.modCh 0 g).ch c).survey = .noSurvey
  by_cases e : c = 0
  · subst e; rw [State.modCh_ch_same]; exact h
  · rw [State.modCh_ch_ne _ _ _ _ e]; exact hs c

theorem surveyUnits_callWith (g : Channel → Channel) (h : (g (call.ch 0)).survey = .noSurvey) (f : Frame) :
    SurveyUnits (ask (callWith g) f) ∧ NoIdleCorrelator (ask (callWith g) f) :=
  surveyUnits_modCh (by decide +kernel) (by decide +kernel) (by decide +kernel) g h f

/-- Each channel state; an OPEN channel with no entry, and with one in SYNCED and out of it. -/
theorem witness_QuiesceDrains :
    let f := req 0x11 0 []
    let open1 := pendingIn .opened [entry 0]
    SurveyUnits (ask (callWith open1) f) ∧ NoIdleCorrelator (ask (callWith open1) f)
      ∧ SurveyUnits (ask (synced (callWith open1)) f)
      ∧ (∀ st ∈ [ChanState.free, .opened, .draining, .halted], SurveyUnits (ask (callWith (inState st)) f))
      ∧ (∀ g, Ready (ask (callWith g) f) f []) ∧ Ready (ask (synced (callWith open1)) f) f [] ∧ f.kind = 0x11
      ∧ f.channel = chanByte 0 ∧ f.payload = [] ∧ (call.ch 1).state = .free
      ∧ (∀ st ∈ [ChanState.free, .opened, .draining, .halted], ((callWith (inState st)).ch 0).state = st)
      ∧ (call.ch 0).survey = .noSurvey ∧ ((call.cancelSurvey 0).ch 0).eq.pendingRefs = []
      ∧ ((callWith open1).ch 0).state = .opened ∧ (((callWith open1).cancelSurvey 0).ch 0).eq.pendingRefs ≠ []
      ∧ (((synced (callWith open1)).cancelSurvey 0).ch 0).eq.pendingRefs ≠ []
      ∧ (synced (callWith open1)).highway.state = .synced ∧ (callWith open1).highway.state ≠ .synced :=
  have h := surveyUnits_callWith (pendingIn .opened [entry 0]) (by decide +kernel) (req 0x11 0 [])
  ⟨h.1, h.2, surveyUnits_synced h.1,
    fun st _ => (surveyUnits_callWith (inState st) (by cases st <;> decide +kernel) _).1,
    fun g => ready_callWith g _, ready_ask _ rfl (by decide +kernel), by decide +kernel⟩

/-! ### Witnesses: surveys -/

/-- What `SurveyUnits` says, in a form that is decided. -/
theorem surveyUnits_of {s : State}
    (h1 : ∀ c : ChanId, (s.ch c).survey = .queued ↔ ∃ e ∈ s.dsu.queue, e.channel = c)
    (h2 : ∀ c : ChanId, (s.ch c).survey = .running ↔ ∃ i : Fin 4, (s.dsu.unit i).map (·.entry.channel) = some c)
    (h3 : (s.dsu.queue.map (·.channel)).Nodup)
    (h4 : ∀ i j : Fin 4, s.dsu.unit i ≠ none →
      (s.dsu.unit i).map (·.entry.channel) = (s.dsu.unit j).map (·.entry.channel) → i = j)
    (h5 : ∀ c : ChanId, (s.ch c).survey ≠ .noSurvey → (s.ch c).state = .opened)
    (h6 : ∀ e ∈ s.dsu.queue, LagsFit (s.ch e.channel).params.maxDelay e)
    (h7 : ∀ i : Fin 4, ∀ k ∈ s.dsu.unit i, LagsFit (s.ch k.entry.channel).params.maxDelay k.entry ∧ UnitOk k) :
    SurveyUnits s where
  queued := h1
  running c := by rw [h2 c]; simp [Option.map_eq_some_iff]
  queueOnce := h3
  unitOnce i j k l hi hj he := h4 i j (by simp [hi]) (by simp [hi, hj, he])
  opened := h5
  queueLags := h6
  unitLags i k hi := (h7 i k hi).1
  unitOk i k hi := (h7 i k hi).2

/-- A survey of a channel at one lag, in its window. -/
def windowOf (c : ChanId) : Correlator := ⟨⟨c, 16, 16, 1, false, false⟩, .window, 0, 0, 0, [0]⟩

/-- A channel bound with the default profile, with its survey state. -/
def boundTo (sl : SlotId) (v : SurveyState) : Channel :=
  { boundChannel sl defaultProfile (List.range' (10 * (sl.val - 12)) 10) with survey := v }

/-- Channels 0..4 bound to slots 12..16; 0..3 surveyed by the four correlators, 4 waiting or not. -/
def crowded (queue : List SurveyEntry) : State :=
  { State.reset with
    channels :=
      ((((State.reset.channels.set 0 (boundTo 12 .running)).set 1 (boundTo 13 .running)).set 2 (boundTo 14 .running)).set 3
        (boundTo 15 .running)).set 4 (boundTo 16 (if queue = [] then .noSurvey else .queued))
    highway := { Highway.reset with slotMap :=
      ((((Highway.reset.slotMap.set 12 (some 0)).set 13 (some 1)).set 14 (some 2)).set 15 (some 3)).set 16 (some 4) }
    freePages := List.range' 50 1230
    freeTaps := 6880
    dsu := ⟨queue, #v[some (windowOf 0), some (windowOf 1), some (windowOf 2), some (windowOf 3)]⟩ }

/-- Channel 4's waiting survey. -/
def waiting4 : SurveyEntry := ⟨4, 0, 0, 1, true, false⟩

theorem surveyUnits_crowded : SurveyUnits (crowded []) ∧ SurveyUnits (crowded [waiting4]) :=
  ⟨surveyUnits_of (by decide +kernel) (by decide +kernel) (by decide +kernel) (by decide +kernel) (by decide +kernel)
      (by unfold LagsFit; decide +kernel) (by unfold LagsFit UnitOk; decide +kernel),
    surveyUnits_of (by decide +kernel) (by decide +kernel) (by decide +kernel) (by decide +kernel) (by decide +kernel)
      (by unfold LagsFit; decide +kernel) (by unfold LagsFit UnitOk; decide +kernel)⟩

theorem noIdle_crowded : NoIdleCorrelator (crowded []) ∧ NoIdleCorrelator (crowded [waiting4]) :=
  ⟨.inl rfl, .inr (by decide +kernel)⟩

theorem noIdle_ask {s : State} (f : Frame) (h : NoIdleCorrelator s) : NoIdleCorrelator (ask s f) := h

theorem surveyUnits_ask {s : State} (f : Frame) (h : SurveyUnits s) : SurveyUnits (ask s f) :=
  ⟨h.queued, h.running, h.queueOnce, h.unitOnce, h.opened, h.queueLags, h.unitLags, h.unitOk⟩

theorem ready_crowded (queue : List SurveyEntry) (f : Frame) : Ready (ask (crowded queue) f) f [] :=
  ready_ask f rfl (show State.reset.link.replies.length < 16 by decide +kernel)

/-- A QUIESCE of a channel whose survey is queued, of one whose survey runs with none waiting, and with one waiting. -/
theorem witness_QuiesceDrains_surveyed :
    (∀ q f, Ready (ask (crowded q) f) f []) ∧ (∀ f, SurveyUnits (ask (crowded []) f) ∧ NoIdleCorrelator (ask (crowded []) f))
      ∧ (∀ f, SurveyUnits (ask (crowded [waiting4]) f) ∧ NoIdleCorrelator (ask (crowded [waiting4]) f))
      ∧ (∀ c ∈ ([0, 4] : List ChanId), (req 0x11 (chanByte c) []).kind = 0x11
        ∧ (req 0x11 (chanByte c) []).channel = chanByte c ∧ (req 0x11 (chanByte c) []).payload = [])
      ∧ ((crowded [waiting4]).ch 4).state = .opened ∧ waiting4 ∈ (crowded [waiting4]).dsu.queue ∧ waiting4.channel = 4
      ∧ ((crowded []).ch 0).state = .opened ∧ (crowded []).dsu.unit 0 = some (windowOf 0)
      ∧ (crowded [waiting4]).dsu.unit 0 = some (windowOf 0) ∧ (windowOf 0).entry.channel = 0 :=
  ⟨ready_crowded, fun f => ⟨surveyUnits_ask f surveyUnits_crowded.1, noIdle_ask f noIdle_crowded.1⟩,
    fun f => ⟨surveyUnits_ask f surveyUnits_crowded.2, noIdle_ask f noIdle_crowded.2⟩, by decide +kernel⟩

/-- A correlator's content replaced by another for the same channel. -/
theorem surveyUnits_setUnit {s : State} (h : SurveyUnits s) {i : Fin 4} {k k' : Correlator} (hu : s.dsu.unit i = some k)
    (he : k'.entry.channel = k.entry.channel) (hl : LagsFit (s.ch k'.entry.channel).params.maxDelay k'.entry)
    (hk : UnitOk k') : SurveyUnits (s.setUnit i (some k')) := by
  have back : ∀ j l, (s.setUnit i (some k')).dsu.unit j = some l →
      (∃ m, s.dsu.unit j = some m ∧ l.entry.channel = m.entry.channel) ∧ LagsFit (s.ch l.entry.channel).params.maxDelay l.entry
        ∧ UnitOk l := by
    intro j l hj
    by_cases e : j = i
    · subst e
      rw [State.setUnit_unit_same] at hj
      cases hj
      exact ⟨⟨k, hu, he⟩, hl, hk⟩
    · rw [State.setUnit_unit_ne _ _ _ _ e] at hj
      exact ⟨⟨l, hj, rfl⟩, h.unitLags j l hj, h.unitOk j l hj⟩
  refine ⟨h.queued, fun c => ?_, h.queueOnce, fun a b x y hx hy hc => ?_, h.opened, h.queueLags,
    fun j l hj => (back j l hj).2.1, fun j l hj => (back j l hj).2.2⟩
  · refine (h.running c).trans ⟨?_, ?_⟩
    · rintro ⟨j, l, hj, hc⟩
      by_cases e : j = i
      · subst e
        rw [hu] at hj
        cases hj
        exact ⟨j, k', State.setUnit_unit_same _ _ _, he.trans hc⟩
      · exact ⟨j, l, (State.setUnit_unit_ne _ _ _ _ e).trans hj, hc⟩
    · rintro ⟨j, l, hj, hc⟩
      obtain ⟨m, hm, e⟩ := (back j l hj).1
      exact ⟨j, m, hm, e.symm.trans hc⟩
  · obtain ⟨m, hm, em⟩ := (back a x hx).1
    obtain ⟨n, hn, en⟩ := (back b y hy).1
    exact h.unitOnce a b m n hm hn (em.symm.trans (hc.trans en))

/-- Channel 0's correlator in a lead-in that stands at a count. -/
def leadInOf (n : Nat) : Correlator := ⟨⟨0, 16, 16, 1, true, false⟩, .leadIn, n, 0, 0, [0]⟩

/-- Channel 0's correlator in a window that stands at a count, after some restarts. -/
def windowAt (n restarts : Nat) : Correlator := ⟨⟨0, 16, 16, 1, true, true⟩, .window, 2048, n, restarts, [7]⟩

theorem lagsFit_crowded (e : SurveyEntry) (queue : List SurveyEntry) (hc : e.channel = 0) (h : LagsFit 512 e) :
    LagsFit ((crowded queue).ch e.channel).params.maxDelay e := by
  have : ((crowded queue).ch 0).params.maxDelay = 512 := rfl
  rw [hc, this]; exact h

theorem surveyUnits_leadIn (n : Nat) (h : n < 2048) : SurveyUnits ((crowded []).setUnit 0 (some (leadInOf n))) :=
  surveyUnits_setUnit surveyUnits_crowded.1 (k := windowOf 0) rfl rfl (lagsFit_crowded _ _ rfl ⟨by simp [leadInOf], by simp [leadInOf], rfl, by simp [leadInOf]⟩)
    ⟨rfl, by simp only [leadInOf]; omega, by simp [leadInOf], by simp [leadInOf], fun _ => ⟨rfl, h⟩⟩

theorem surveyUnits_window (n restarts : Nat) (h : n < 1024) (hr : restarts ≤ 2) :
    SurveyUnits ((crowded []).setUnit 0 (some (windowAt n restarts)))
      ∧ SurveyUnits ((crowded [waiting4]).setUnit 0 (some (windowAt n restarts))) :=
  have hk : UnitOk (windowAt n restarts) :=
    ⟨rfl, by simp [windowAt], h, hr, by simp [windowAt]⟩
  have hf : LagsFit 512 (windowAt n restarts).entry := ⟨by simp [windowAt], by simp [windowAt], rfl, by simp [windowAt]⟩
  ⟨surveyUnits_setUnit surveyUnits_crowded.1 (k := windowOf 0) rfl rfl
      (lagsFit_crowded _ _ rfl hf) hk,
    surveyUnits_setUnit surveyUnits_crowded.2 (k := windowOf 0) rfl rfl
      (lagsFit_crowded _ _ rfl hf) hk⟩

theorem noIdle_window (k : Correlator) (queue : List SurveyEntry) :
    NoIdleCorrelator ((crowded queue).setUnit 0 (some k)) := .inr rfl

/-- The slot map of the crowded part. -/
theorem slotMap_crowded : SlotMap (crowded []) ∧ SlotMap (crowded [waiting4]) := by
  have h : ∀ q ∈ [[], [waiting4]], ∀ c : ChanId,
      (((crowded q).ch c).slot.isNone = decide (((crowded q).ch c).state = .free))
      ∧ ∀ sl : SlotId, decide (((crowded q).ch c).slot = some sl) = decide ((crowded q).slotOwner sl = some c) := by
    decide +kernel
  have key : ∀ q ∈ [[], [waiting4]], SlotMap (crowded q) := by
    intro q hq c
    obtain ⟨h1, h2⟩ := h q hq c
    constructor
    · rw [← Option.isNone_iff_eq_none, h1]; simp
    · exact fun sl => decide_eq_decide.1 (h2 sl)
  exact ⟨key _ (by simp), key _ (by simp)⟩

/-- Slot map and survey units do not read the bit count, the frame sync level or the highway state. -/
theorem surveyUnits_clocked {s : State} (h : SurveyUnits s) (n : Nat) (level : Bool) :
    SurveyUnits (clockedTo n level (synced s)) :=
  ⟨h.queued, h.running, h.queueOnce, h.unitOnce, h.opened, h.queueLags, h.unitLags, h.unitOk⟩

theorem slotMap_clocked {s : State} (h : SlotMap s) (n : Nat) (level : Bool) : SlotMap (clockedTo n level (synced s)) := h

/-- The crowded part in SYNCED, one bit clock before an event, with channel 0's correlator as given. -/
def surveying (count : Nat) (k : Correlator) : State := clockedTo count false (synced ((crowded []).setUnit 0 (some k)))

/-- A frame end with a lead-in at 2046 and at 2047, and with windows at 1022 and at 0. -/
theorem witness_FrameEndTakesTurns_surveyed :
    (∀ n, n < 2048 → SurveyUnits (surveying 1023 (leadInOf n)) ∧ SlotMap (surveying 1023 (leadInOf n))
        ∧ SyncComes (surveying 1023 (leadInOf n)) [true])
      ∧ SurveyUnits (surveying 1023 (windowAt 1022 0)) ∧ (surveying 1023 (leadInOf 2047)).highway.bitCount + 1 = 1024
      ∧ (surveying 1023 (leadInOf 2047)).dsu.unit 0 = some (leadInOf 2047) ∧ (leadInOf 2047).leadIn + 1 = 2048
      ∧ (leadInOf 2046).leadIn + 1 ≠ 2048 ∧ (leadInOf 2046).phase = .leadIn
      ∧ (surveying 1023 (windowAt 1022 0)).dsu.unit 0 = some (windowAt 1022 0) ∧ (windowAt 1022 0).phase = .window
      ∧ (windowAt 1022 0).window + 1 ≠ 1024
      ∧ ∀ i : Fin 4, ∀ k ∈ (surveying 1023 (windowAt 1022 0)).dsu.unit i, k.phase = .window → k.window + 1 ≠ 1024 :=
  ⟨fun n h => ⟨surveyUnits_clocked (surveyUnits_leadIn n h) _ _, slotMap_clocked slotMap_crowded.1 _ _, sync_next rfl⟩,
    surveyUnits_clocked (surveyUnits_window 1022 0 (by omega) (by omega)).1 _ _, by decide +kernel⟩

theorem slotMap_counted {s : State} (h : SlotMap s) (n : Nat) (level : Bool) : SlotMap (clockedTo n level s) := h

theorem surveyUnits_counted {s : State} (h : SurveyUnits s) (n : Nat) (level : Bool) : SurveyUnits (clockedTo n level s) :=
  ⟨h.queued, h.running, h.queueOnce, h.unitOnce, h.opened, h.queueLags, h.unitLags, h.unitOk⟩

/-- The slots of a slip: one of a DRAINING channel at its 800th frame, and an unmapped one. -/
theorem witness_SlippedFrameEnd_draining :
    let s := clockedTo 1022 false (draining 799 [entry 0])
    s.nrstLow = false ∧ s.highway.state = .synced ∧ SyncComes s [true] ∧ s.highway.bitCount + 1 < 3072
      ∧ s.highway.bitCount + 1 ≠ 1024 ∧ SlotMap s ∧ SurveyUnits s ∧ (s.ch 0).state = .draining ∧ (s.ch 0).drainCount + 1 = 800
      ∧ s.slotOwner 12 = some 0 ∧ s.slotOwner 13 = none :=
  ⟨by decide +kernel, by decide +kernel, sync_next rfl, by decide +kernel, by decide +kernel,
    slotMap_counted (slotMap_draining _ _) _ _, surveyUnits_counted (surveyUnits_draining _).2 _ _, by decide +kernel⟩

/-- A slip with a lead-in at 2047 and with windows after 1 and after 2 restarts; a turn with none and with one waiting. -/
theorem witness_SlippedFrameEnd_surveyed :
    SurveyUnits (surveying 1022 (leadInOf 2047)) ∧ SurveyUnits (surveying 1022 (windowAt 5 1))
      ∧ SurveyUnits (surveying 1022 (windowAt 5 2)) ∧ SlotMap (surveying 1022 (windowAt 5 2))
      ∧ SyncComes (surveying 1022 (windowAt 5 2)) [true] ∧ (surveying 1022 (windowAt 5 2)).highway.bitCount + 1 ≠ 1024
      ∧ (windowAt 5 1).restarts < 2 ∧ (windowAt 5 2).restarts = 2
      ∧ (surveying 1022 (windowAt 5 2)).dsu.unit 0 = some (windowAt 5 2)
      ∧ SurveyUnits ((crowded [waiting4]).setUnit 0 (some (windowAt 5 2)))
      ∧ NoIdleCorrelator ((crowded [waiting4]).setUnit 0 (some (windowAt 5 2)))
      ∧ ((crowded [waiting4]).setUnit 0 (some (windowAt 5 2))).dsu.unit 0 = some (windowAt 5 2) :=
  ⟨surveyUnits_clocked (surveyUnits_leadIn 2047 (by omega)) _ _,
    surveyUnits_clocked (surveyUnits_window 5 1 (by omega) (by omega)).1 _ _,
    surveyUnits_clocked (surveyUnits_window 5 2 (by omega) (by omega)).1 _ _, slotMap_clocked slotMap_crowded.1 _ _,
    sync_next rfl, by decide +kernel, by decide +kernel, by decide +kernel, by decide +kernel,
    (surveyUnits_window 5 2 (by omega) (by omega)).2, noIdle_window _ _, by decide +kernel⟩

/-- A turn of a channel in its lead-in at 2046 and at 2047. -/
theorem witness_LeadInEndOpensWindow_turn :
    (∀ n, n < 2048 → SurveyUnits ((crowded []).setUnit 0 (some (leadInOf n))))
      ∧ ((crowded []).setUnit 0 (some (leadInOf 2047))).dsu.unit 0 = some (leadInOf 2047)
      ∧ (leadInOf 2047).phase = .leadIn ∧ (leadInOf 2047).leadIn + 1 = 2048 ∧ (leadInOf 2046).leadIn + 1 ≠ 2048 :=
  ⟨surveyUnits_leadIn, by decide +kernel⟩

/-- A turn of a channel in its window at 1022 and at 1023, with none and with one waiting. -/
theorem witness_WindowEndRecords_turn :
    (∀ n, n < 1024 → SurveyUnits ((crowded []).setUnit 0 (some (windowAt n 0)))
        ∧ SurveyUnits ((crowded [waiting4]).setUnit 0 (some (windowAt n 0))))
      ∧ (∀ q n, NoIdleCorrelator ((crowded q).setUnit 0 (some (windowAt n 0))))
      ∧ (∀ q ∈ [[], [waiting4]], ∀ e ∈ ((crowded q).setUnit 0 (some (windowAt 1023 0))).dsu.queue, e.channel ≠ 0)
      ∧ ((crowded [waiting4]).setUnit 0 (some (windowAt 1023 0))).dsu.unit 0 = some (windowAt 1023 0)
      ∧ (windowAt 1023 0).phase = .window ∧ (windowAt 1023 0).entry.channel = 0 ∧ (windowAt 1022 0).window + 1 ≠ 1024
      ∧ (windowAt 1023 0).window + 1 = 1024
      ∧ ((crowded []).ch 0).eq.outputs.length + 1 ≠ ((crowded []).ch 0).params.blockSize :=
  ⟨fun n h => surveyUnits_window n 0 h (by omega), fun q n => noIdle_window _ q, by decide +kernel⟩

/-- Turns whose sample is the probe, 0 in PRIMING at a level of 79, the head at 80 and in RUNNING, with TX_LOW falling due at
79 and not at 80, and 0 in RUNNING with an empty queue. -/
theorem witness_TurnRunsFilters_transmit :
    let sending (state : TxState) (n : Nat) (arm : Arming) (ch : Channel) : Channel :=
      { ch with tx := { ch.tx with state := state, queue := List.replicate n 5, lowArm := arm } }
    let s (state : TxState) (n : Nat) (arm : Arming) := callWith (sending state n arm)
    (∀ st n a f, SurveyUnits (ask (s st n a) f)) ∧ SurveyUnits ((crowded []).setUnit 0 (some (leadInOf 3)))
      ∧ ((crowded []).setUnit 0 (some (leadInOf 3))).dsu.unit 0 = some (leadInOf 3) ∧ (leadInOf 3).entry.channel = 0
      ∧ (leadInOf 3).entry.probe = true
      ∧ (∀ st ∈ [TxState.priming, .running], ∀ i : Fin 4, (s st 0 .armed).dsu.unit i = none)
      ∧ ((s .priming 79 .armed).ch 0).tx.state = .priming
      ∧ ((s .priming 79 .armed).ch 0).tx.queue.length < ((s .priming 79 .armed).ch 0).params.txStart
      ∧ ((s .priming 80 .armed).ch 0).params.txStart ≤ ((s .priming 80 .armed).ch 0).tx.queue.length
      ∧ ((s .running 1 .armed).ch 0).tx.state = .running ∧ ((s .running 1 .armed).ch 0).tx.queue = 5 :: []
      ∧ ((s .priming 80 .armed).ch 0).tx.queue = 5 :: List.replicate 79 5
      ∧ (List.replicate 79 (5 : Sample)).length < ((s .priming 80 .armed).ch 0).params.txLow
      ∧ ¬ ((List.replicate 80 (5 : Sample)).length < ((s .running 81 .armed).ch 0).params.txLow)
      ∧ ((s .running 0 .armed).ch 0).tx.queue = [] ∧ 1 ≤ ((s .priming 0 .armed).ch 0).params.txStart :=
  ⟨fun _ _ _ f => (surveyUnits_callWith _ survey_call f).1, surveyUnits_leadIn 3 (by omega), by decide +kernel⟩

/-- Turns inside a block and at its end: unguarded in TRAIN, at counts 2 and 1, with an extension and without; guarded; and
with the divergence guard off. -/
theorem witness_TurnRunsFilters :
    let training (count : Nat) (extension : Option Nat) (guard : Nat) (ch : Channel) : Channel :=
      { ch with echo := { ch.echo with mode := .train, trainCount := count, extension := extension, guard := guard } }
    let s (count : Nat) (extension : Option Nat) (guard : Nat) := callWith (training count extension guard)
    let unguarded := callWith fun ch => { ch with params := { ch.params with divergenceGuard := false } }
    ((s 2 none 0).ch 0).eq.outputs.length + 1 ≠ ((s 2 none 0).ch 0).params.blockSize ∧ (s 2 none 0).dsu.unitOf 0 = none
      ∧ ((s 2 none 0).ch 0).echo.mode = .train ∧ 2 ≤ ((s 2 none 0).ch 0).echo.trainCount
      ∧ ((s 1 none 0).ch 0).echo.trainCount = 1 ∧ ((s 1 none 0).ch 0).echo.extension = none
      ∧ ((s 1 (some 9) 64).ch 0).echo.extension = some 9 ∧ ((s 2 none 0).ch 0).echo.guard = 0
      ∧ ((s 1 (some 9) 64).ch 0).echo.guard ≠ 0 ∧ (call.ch 0).echo.mode ≠ .train
      ∧ (unguarded.ch 0).params.divergenceGuard = false := by decide +kernel

/-- Turns that fill a block: in RUNNING, in TRAIN at counts 1 and 2 and with an extension, and without a survey. -/
theorem witness_TurnRunsFilters_full :
    let filling (count : Nat) (extension : Option Nat) (ch : Channel) : Channel :=
      { ch with
        echo := { ch.echo with mode := .train, trainCount := count, extension := extension }
        eq := { ch.eq with outputs := List.replicate (ch.params.blockSize - 1) 7 } }
    let s (count : Nat) (extension : Option Nat) := callWith (filling count extension)
    (∀ n e f, SurveyUnits (ask (s n e) f))
      ∧ ∀ e ∈ [none, some 9], ∀ n ∈ [1, 2], ((s n e).ch 0).eq.outputs.length + 1 = ((s n e).ch 0).params.blockSize
        ∧ ((s n e).ch 0).echo.mode = .train ∧ ((s n e).ch 0).echo.trainCount = n ∧ ((s n e).ch 0).echo.extension = e
        ∧ (s n e).dsu.unitOf 0 = none ∧ 1 ≤ ((s n e).ch 0).params.txStart :=
  ⟨fun _ _ f => (surveyUnits_callWith _ survey_call f).1, by decide +kernel⟩

theorem surveyUnits_same {s t : State} (h : SurveyUnits s) (hd : t.dsu = s.dsu)
    (hc : ∀ c, (t.ch c).survey = (s.ch c).survey ∧ (t.ch c).state = (s.ch c).state ∧ (t.ch c).params = (s.ch c).params) :
    SurveyUnits t := by
  constructor <;> simp only [hd, fun c => (hc c).1, fun c => (hc c).2.1, fun c => (hc c).2.2]
  exacts [h.queued, h.running, h.queueOnce, h.unitOnce, h.opened, h.queueLags, h.unitLags, h.unitOk]

/-- A correlator one turn before the end of a window whose result is found and applied. -/
def loud : Correlator := { windowAt 1023 0 with sums := [2 ^ 40] }

/-- Channel 0 served by a correlator, in TRACK, at the turn that fills its block or not. -/
def served (k : Correlator) (outputs : Nat) : State :=
  ((crowded []).setUnit 0 (some k)).modCh 0 fun ch =>
    { ch with
      echo := { ch.echo with mode := .track, far := List.replicate 64 5, delay := 3 }
      eq := { ch.eq with outputs := List.replicate outputs 7 } }

theorem surveyUnits_served (outputs : Nat) : SurveyUnits (served loud outputs) := by
  have hl : LagsFit 512 loud.entry := ⟨by simp [loud, windowAt], by simp [loud, windowAt], rfl, by simp [loud, windowAt]⟩
  refine surveyUnits_same (s := (crowded []).setUnit 0 (some loud))
    (surveyUnits_setUnit surveyUnits_crowded.1 (k := windowOf 0) rfl rfl (lagsFit_crowded _ _ rfl hl)
      ⟨rfl, by simp [loud, windowAt], by simp [loud, windowAt], by simp [loud, windowAt], by simp [loud, windowAt]⟩)
    rfl fun c => ?_
  by_cases hc : c = 0
  · subst hc; exact ⟨by simp [served], by simp [served], by simp [served]⟩
  · exact ⟨by simp [served, hc], by simp [served, hc], by simp [served, hc]⟩

/-- Turns of a channel that a correlator serves, inside a block and at its end: the last turn of a window whose result is found
and applied, the last one of a window whose result is not, one before, and a lead-in turn. -/
theorem witness_TurnRunsFilters_surveyed :
    let found (k : Correlator) (outputs : Nat) : Prop :=
      let s := served k outputs
      let x := historyRead (transmitStage s 0 12).pageMem (s.ch 0).pages (s.ch 0).writeIndex
      let r := saturate ((100 : Sample).toInt - echoEstimate (s.ch 0).echo.near (s.ch 0).echo.far (s.ch 0).echo.delay x)
      (s.ch 0).params.surveyMinConf ≤ (surveyFigures k.entry.lo (addProducts x r k.entry.lo k.sums)).confidence
    (∀ outputs, SurveyUnits (served loud outputs)) ∧ found loud 0 ∧ found loud 39 ∧ ¬ found (windowAt 1023 0) 0
      ∧ loud.entry.channel = 0 ∧ loud.phase = .window ∧ loud.window + 1 = 1024 ∧ loud.entry.apply = true
      ∧ (served loud 0).dsu.unit 0 = some loud ∧ (windowAt 1022 0).window + 1 ≠ 1024 ∧ (leadInOf 3).phase ≠ .window
      ∧ ((served loud 39).ch 0).eq.outputs.length + 1 = ((served loud 39).ch 0).params.blockSize
      ∧ ((served loud 0).ch 0).eq.outputs.length + 1 ≠ ((served loud 0).ch 0).params.blockSize :=
  ⟨surveyUnits_served, by decide +kernel⟩

/-- Turns that end no survey of their channel, slipped or not, at the counts beside those that do; one that ends training and
ones that do not. -/
theorem witness_TurnRunsFilters_frame :
    let ends (s : State) (slipped : Bool) : Prop := ∃ i : Fin 4, ∃ k ∈ s.dsu.unit i, k.entry.channel = 0 ∧ k.phase = .window
      ∧ (if slipped then 2 ≤ k.restarts else k.window + 1 = 1024)
    let trained (count : Nat) : State := callWith fun ch => { ch with echo := { ch.echo with mode := .train, trainCount := count } }
    ¬ ends (served (windowAt 1022 0) 0) false ∧ ends (served (windowAt 1023 0) 0) false
      ∧ ¬ ends (served (windowAt 5 1) 0) true ∧ ends (served (windowAt 5 2) 0) true ∧ ¬ ends (served (leadInOf 2047) 0) false
      ∧ ¬ ends call false ∧ (served (leadInOf 3) 0).dsu.unit 1 = some (windowOf 1) ∧ (windowOf 1).entry.channel ≠ 0
      ∧ ((trained 1).ch 0).echo.trainCount ≤ 1 ∧ ((trained 1).ch 0).echo.extension = none
      ∧ ¬ ((trained 2).ch 0).echo.trainCount ≤ 1 := by decide +kernel

/-- An applied result sets D 8 before the peak at lag 16 and zeroes the far taps; one that is not found leaves both (R16). -/
theorem test_window_end_applies :
    let t := turn (served loud 0) 0 12 (some 0)
    let u := turn (served (windowAt 1023 0) 0) 0 12 (some 0)
    (t.ch 0).echo.delay = 8 ∧ (t.ch 0).echo.far = List.replicate 64 0 ∧ (u.ch 0).echo.delay = 3
      ∧ (u.ch 0).echo.far = List.replicate 64 5 := by decide +kernel

/-- A FREE channel, an OPEN one without a survey, and surveyed ones; an EQ_BLOCK going out and none. -/
theorem witness_ReleaseReturnsResources :
    (∀ q f, NoIdleCorrelator (ask (crowded q) f)) ∧ (∀ q f, Ready (ask (crowded q) f) f [])
      ∧ (∀ f, SurveyUnits (ask (crowded []) f)) ∧ (∀ f, SurveyUnits (ask (crowded [waiting4]) f)) ∧ (req 0x12 4 []).kind = 0x12
      ∧ (req 0x12 4 []).channel = chanByte 4 ∧ (req 0x12 4 []).payload = [] ∧ ((crowded []).ch 5).state = .free
      ∧ ((crowded []).ch 4).state ≠ .free ∧ ((crowded []).ch 4).slot = some 16 ∧ ((crowded []).ch 4).survey = .noSurvey
      ∧ ((crowded [waiting4]).ch 4).slot = some 16 ∧ (crowded []).link.outFrame = none
      ∧ ((crowded []).modLink fun l => { l with outFrame := some ⟨[0xC3], 0, .eqBlock 4 true⟩ }).link.outFrame
        = some ⟨[0xC3], 0, .eqBlock 4 true⟩ :=
  ⟨fun q f => .inr rfl, ready_crowded, fun f => surveyUnits_ask f surveyUnits_crowded.1,
    fun f => surveyUnits_ask f surveyUnits_crowded.2, by decide +kernel⟩

/-- A channel not OPEN, one surveyed, one that waits for a correlator, and one that takes correlator 0. -/
theorem witness_SurveyIsQueuedOrGranted :
    (∀ f, Ready (ask (crowded []) f) f [] ∧ SurveyUnits (ask (crowded []) f) ∧ NoIdleCorrelator (ask (crowded []) f))
      ∧ (∀ f, Ready (ask call f) f [] ∧ SurveyUnits (ask call f) ∧ NoIdleCorrelator (ask call f))
      ∧ (∀ c ∈ ([0, 4, 5] : List ChanId), (req 0x1B (chanByte c) [0, 512, 3]).kind = 0x1B
        ∧ (req 0x1B (chanByte c) [0, 512, 3]).channel = chanByte c ∧ (req 0x1B (chanByte c) [0, 512, 3]).payload.length = 6)
      ∧ ((crowded []).ch 5).state ≠ .opened ∧ ((crowded []).ch 0).state = .opened ∧ ((crowded []).ch 0).survey ≠ .noSurvey
      ∧ ((crowded []).ch 4).state = .opened ∧ ((crowded []).ch 4).survey = .noSurvey
      ∧ (crowded []).dsu.idleUnit = none ∧ (call.ch 0).survey = .noSurvey ∧ call.dsu.idleUnit = some 0 :=
  ⟨fun f => ⟨ready_crowded _ f, surveyUnits_ask f surveyUnits_crowded.1, .inl rfl⟩,
    fun f => ⟨ready_call f, surveyUnits_ask f (surveyUnits_of_empty rfl (by decide +kernel) (by decide +kernel)), .inl rfl⟩,
    by decide +kernel⟩

/-- No survey; a queued one; a running one with none waiting and with one. -/
theorem witness_SurveyCancelEnds :
    (∀ q f, Ready (ask (crowded q) f) f []) ∧ (∀ f, SurveyUnits (ask (crowded []) f) ∧ NoIdleCorrelator (ask (crowded []) f))
      ∧ (∀ f, SurveyUnits (ask (crowded [waiting4]) f) ∧ NoIdleCorrelator (ask (crowded [waiting4]) f))
      ∧ (∀ c ∈ ([0, 4, 5] : List ChanId), (req 0x1C (chanByte c) []).kind = 0x1C
        ∧ (req 0x1C (chanByte c) []).channel = chanByte c ∧ (req 0x1C (chanByte c) []).payload = [])
      ∧ ((crowded []).ch 5).state = .free ∧ ((crowded []).ch 4).state ≠ .free ∧ ((crowded []).ch 4).survey = .noSurvey
      ∧ waiting4 ∈ (crowded [waiting4]).dsu.queue ∧ waiting4.channel = 4
      ∧ (crowded []).dsu.unit 0 = some (windowOf 0) ∧ (crowded [waiting4]).dsu.unit 0 = some (windowOf 0)
      ∧ (windowOf 0).entry.channel = 0 ∧ (crowded []).dsu.queue = [] ∧ (crowded [waiting4]).dsu.queue = waiting4 :: [] :=
  ⟨ready_crowded, fun f => ⟨surveyUnits_ask f surveyUnits_crowded.1, noIdle_ask f noIdle_crowded.1⟩,
    fun f => ⟨surveyUnits_ask f surveyUnits_crowded.2, noIdle_ask f noIdle_crowded.2⟩, by decide +kernel⟩

/-! ### Witnesses: filter requests -/

/-- Modes 0..3, a count of 0, then-modes 0..2, given and not given; a channel not OPEN. -/
theorem witness_EchoModeSets :
    (∀ g f, Ready (ask (callWith g) f) f [])
      ∧ (∀ w ∈ ([[3, 0, 0, 0], [2, 0, 0, 0], [0, 0, 0, 0], [1, 1, 0, 0], [1, 2, 0, 1], [1, 0, 0, 1], [1, 3, 1, 0], [1, 2, 0, 2]]
          : List (List Word)), (req 0x13 0 w).kind = 0x13 ∧ (req 0x13 0 w).channel = chanByte 0
        ∧ (req 0x13 0 w).payload.length = 8 ∧ (req 0x13 0 w).value 0 = (w.getD 0 0).toNat
        ∧ (req 0x13 0 w).value 2 = (w.getD 2 0).toNat ∧ (req 0x13 0 w).value 3 = (w.getD 3 0).toNat
        ∧ (req 0x13 0 w).flag 1 0 = (w.getD 1 0).getLsbD 0 ∧ (req 0x13 0 w).flag 1 1 = (w.getD 1 0).getLsbD 1)
      ∧ (call.ch 0).state = .opened ∧ ((callWith (inState .halted)).ch 0).state ≠ .opened :=
  ⟨ready_callWith, by decide +kernel⟩

/-- Each echo mode, a count of 0 and of 1, an extension pending and none. -/
theorem witness_EchoExtendSets :
    let inMode (m : EchoMode) (e : Option Nat) (ch : Channel) : Channel :=
      { ch with echo := { ch.echo with mode := m, trainCount := 9, extension := e } }
    (∀ g f, Ready (ask (callWith g) f) f []) ∧ (req 0x14 0 [0]).kind = 0x14 ∧ (req 0x14 0 [0]).channel = chanByte 0
      ∧ (req 0x14 0 [1]).payload.length = 2 ∧ (req 0x14 0 [0]).value 0 = 0 ∧ 1 ≤ (req 0x14 0 [1]).value 0
      ∧ ((callWith (inState .halted)).ch 0).state ≠ .opened ∧ (call.ch 0).state = .opened ∧ (call.ch 0).echo.mode = .hold
      ∧ ((callWith (inMode .track none)).ch 0).echo.mode = .track ∧ ((callWith (inMode .train none)).ch 0).echo.mode = .train
      ∧ ((callWith (inMode .train none)).ch 0).echo.extension = none
      ∧ ((callWith (inMode .train (some 1))).ch 0).echo.extension ≠ none :=
  ⟨ready_callWith, by decide +kernel⟩

/-- Each channel state, and the delays 512 and 513 of a max_delay of 512. -/
theorem witness_SetDelayClamps :
    (∀ g f, Ready (ask (callWith g) f) f []) ∧ (req 0x15 0 [512, 1]).kind = 0x15 ∧ (req 0x15 0 [512, 1]).channel = chanByte 0
      ∧ (req 0x15 0 [512, 1]).payload.length = 4 ∧ (req 0x15 0 [512, 1]).value 0 ≤ (call.ch 0).params.maxDelay
      ∧ (call.ch 0).params.maxDelay < (req 0x15 0 [513, 1]).value 0
      ∧ ∀ st ∈ [ChanState.free, .opened, .draining, .halted], ((callWith (inState st)).ch 0).state = st :=
  ⟨ready_callWith, by decide +kernel⟩

/-- The modes 0..4 on an OPEN channel, and a channel that is not. -/
theorem witness_EqModeSets :
    (∀ g f, Ready (ask (callWith g) f) f [])
      ∧ (∀ k ∈ [0, 1, 2, 3, 4], (req 0x16 0 [.ofNat 16 k]).kind = 0x16 ∧ (req 0x16 0 [.ofNat 16 k]).channel = chanByte 0
        ∧ (req 0x16 0 [.ofNat 16 k]).payload.length = 2 ∧ (req 0x16 0 [.ofNat 16 k]).word 0 = .ofNat 16 k
        ∧ (req 0x16 0 [.ofNat 16 k]).value 0 = k)
      ∧ (call.ch 0).state = .opened ∧ ((callWith (inState .draining)).ch 0).state ≠ .opened :=
  ⟨ready_callWith, by decide +kernel⟩

/-- Sets 4 and 5, counts 0, 1, 128 and 129, starts 63 and 64 and by cursor; no checkpoint; a FREE channel. -/
theorem witness_TapsReadReports :
    (∀ g f, Ready (ask (callWith g) f) f [])
      ∧ (∀ w ∈ ([[5, 0, 1], [0, 0, 0], [0, 0, 129], [4, 0, 128], [0, 63, 1], [0, 64, 1], [2, 0xFFFF, 128]]
          : List (List Word)), (req 0x17 0 w).kind = 0x17 ∧ (req 0x17 0 w).channel = chanByte 0
        ∧ (req 0x17 0 w).payload.length = 6 ∧ (req 0x17 0 w).word 0 = w.getD 0 0
        ∧ (req 0x17 0 w).word 1 = w.getD 1 0 ∧ (req 0x17 0 w).value 2 = (w.getD 2 0).toNat)
      ∧ tapSetWord .ckFar = 4 ∧ tapsOf (call.ch 0) .ckFar = none ∧ (call.ch 0).state ≠ .free ∧ (call.ch 1).state = .free
      ∧ tapsOf (call.ch 0) .near = some (List.replicate 64 0) ∧ cursorOf (call.ch 0) .eq = 0 :=
  ⟨ready_callWith, by decide +kernel⟩

/-- 1 and 128 values; sets 2 and 3; HALTED, and OPEN in and out of HOLD; starts 63 and 64. -/
theorem witness_TapsWriteStores :
    let tracking (ch : Channel) : Channel := { ch with echo := { ch.echo with mode := .track } }
    (∀ g f, Ready (ask (callWith g) f) f [])
      ∧ (∀ w ∈ ([[3, 0, 5], [2, 0, 5], [0, 63, 5], [0, 64, 5], 0 :: 0xFFFF :: List.replicate 128 5] : List (List Word)),
        (req 0x18 0 w).kind = 0x18 ∧ (req 0x18 0 w).channel = chanByte 0 ∧ 6 ≤ (req 0x18 0 w).payload.length
          ∧ (req 0x18 0 w).payload.length ≤ 260 ∧ (req 0x18 0 w).payload.length % 2 = 0
          ∧ (req 0x18 0 w).word 0 = w.getD 0 0 ∧ (req 0x18 0 w).word 1 = w.getD 1 0)
      ∧ (call.ch 0).state = .opened ∧ (call.ch 0).echo.mode = .hold ∧ (call.ch 0).eq.mode = .hold
      ∧ ((callWith tracking).ch 0).echo.mode ≠ .hold ∧ ((callWith (inState .halted)).ch 0).state = .halted
      ∧ tapsOf (call.ch 0) .near = some (List.replicate 64 0) :=
  ⟨ready_callWith, by decide +kernel⟩

/-- Each channel state, with a record and without. -/
theorem witness_CheckpointAndRestore :
    let kept (ch : Channel) : Channel := { ch with echo := { ch.echo with checkpoint := some ⟨[], [], 5⟩ } }
    (∀ g f, Ready (ask (callWith g) f) f []) ∧ (req 0x19 0 []).kind = 0x19 ∧ (req 0x1A 0 []).kind = 0x1A
      ∧ (req 0x19 0 []).channel = chanByte 0 ∧ (req 0x19 0 []).payload = []
      ∧ (∀ st ∈ [ChanState.free, .opened, .draining, .halted], ((callWith (inState st)).ch 0).state = st)
      ∧ (call.ch 0).echo.checkpoint = none ∧ ((callWith kept).ch 0).echo.checkpoint = some ⟨[], [], 5⟩ :=
  ⟨ready_callWith, by decide +kernel⟩

theorem witness_QualityReports :
    (∀ g f, Ready (ask (callWith g) f) f []) ∧ (req 0x1D 0 []).kind = 0x1D ∧ (req 0x1D 0 []).channel = chanByte 0
      ∧ (req 0x1D 0 []).payload = [] ∧ (call.ch 0).state ≠ .free ∧ (call.ch 1).state = .free
      ∧ (req 0x1D 1 []).channel = chanByte 1 :=
  ⟨ready_callWith, by decide +kernel⟩

/-! ### Witnesses: every request, every step -/

/-- Channel fields 39 and 40, and lengths beside those of R209. -/
theorem witness_FrameChecksComeFirst :
    (∀ f, Ready (ask call f) f [])
      ∧ isChannelKind (req 0x10 40 [0, 0]).kind = true ∧ 40 ≤ (req 0x10 40 [0, 0]).channel.toNat
      ∧ requestRow (req 0x10 40 [0, 0]).kind ≠ .unknownKind ∧ (req 0x10 39 [0]).channel.toNat < 40
      ∧ lengthAdmitted (req 0x10 39 [0]).kind (req 0x10 39 [0]).payload.length = false
      ∧ isChannelKind (req 0x01 0xFF [0]).kind = false ∧ requestRow (req 0x01 0xFF [0]).kind ≠ .unknownKind
      ∧ lengthAdmitted (req 0x01 0xFF [0]).kind (req 0x01 0xFF [0]).payload.length = false
      ∧ lengthAdmitted (req 0x18 0 (List.replicate 131 0)).kind (req 0x18 0 (List.replicate 131 0)).payload.length = false :=
  ⟨ready_call, by decide +kernel⟩

/-- 15 and 16 replies waiting. -/
theorem witness_OneReplyAndRefusalsChangeNothing :
    let s (n : Nat) := ask (linked fun l => { l with replies := List.replicate n reply0 }) (req 0x1D 1 [])
    (s 15).nrstLow = false ∧ (s 15).link.requests = req 0x1D 1 [] :: [] ∧ (s 15).link.replies.length < 16
      ∧ (s 16).nrstLow = false ∧ (s 16).link.requests = req 0x1D 1 [] :: [] ∧ 16 ≤ (s 16).link.replies.length
      ∧ (req 0x1D 1 []).kind ≠ 0x02 := by decide +kernel

theorem pagePlaces_clocked {s : State} (h : PagePlaces s) (n : Nat) (level : Bool) : PagePlaces (clockedTo n level s) := h

theorem memoryCanonical_clocked {s : State} (h : MemoryCanonical s) (n : Nat) (level : Bool) :
    MemoryCanonical (clockedTo n level s) := h

theorem pagePlaces_waiting {s : State} (h : PagePlaces s) (q : List Instr) : PagePlaces { s with pending := q } := h

theorem slotMap_waiting {s : State} (h : SlotMap s) (q : List Instr) : SlotMap { s with pending := q } := h

theorem memoryCanonical_waiting {s : State} (h : MemoryCanonical s) (q : List Instr) :
    MemoryCanonical { s with pending := q } := h

theorem noIdle_waiting {s : State} (h : NoIdleCorrelator s) (q : List Instr) : NoIdleCorrelator { s with pending := q } := h

theorem surveyUnits_waiting {s : State} (h : SurveyUnits s) (q : List Instr) : SurveyUnits { s with pending := q } :=
  ⟨h.queued, h.running, h.queueOnce, h.unitOnce, h.opened, h.queueLags, h.unitLags, h.unitOk⟩

/-- The call in SYNCED with a frame end waiting. -/
def runningCall : State :=
  { clockedTo 1023 false (synced call) with pending := [.frameEnd ⟨[true], 100⟩] }

theorem runningCall_steps : ∃ t, step runningCall = .next t := next_of_completes (by decide +kernel)

theorem witness_PoolsAreKept : (∃ t, step runningCall = .next t) ∧ TapPool runningCall ∧ PagePlaces runningCall :=
  ⟨runningCall_steps, by unfold TapPool; decide +kernel, pagePlaces_waiting (pagePlaces_clocked pagePlaces_call _ _) _⟩

theorem witness_SlotMapIsKept : (∃ t, step runningCall = .next t) ∧ SlotMap runningCall :=
  ⟨runningCall_steps, slotMap_waiting (slotMap_counted slotMap_call _ _) _⟩

theorem witness_MemoryStaysCanonical : (∃ t, step runningCall = .next t) ∧ MemoryCanonical runningCall :=
  ⟨runningCall_steps, memoryCanonical_waiting (memoryCanonical_clocked memoryCanonical_call _ _) _⟩

theorem witness_NoticeListIsKept : (∃ t, step runningCall = .next t) ∧ NoticeList runningCall :=
  ⟨runningCall_steps, by unfold NoticeList; decide +kernel⟩

/-- A notice waiting with 255 occurrences of the kind and channel raised, behind one of another kind and channel; and no such
one waiting. -/
theorem witness_NoticeListIsKept_placed :
    let same (n : Notice) : Prop := n.channel = chanByte 0 ∧ noticeKind n.body = noticeKind (.txLow 5)
    (∀ m ∈ [(⟨0xFF, 1, .started⟩ : Notice), ⟨chanByte 0, 1, .txHigh 2⟩, ⟨chanByte 1, 1, .txLow 2⟩], ¬ same m)
      ∧ same ⟨chanByte 0, 255, .txLow 9⟩ := by decide +kernel

theorem witness_LinkStateIsKept :
    (∃ t, step runningCall = .next t) ∧ QueueBounds runningCall ∧ AttnFollows runningCall
      ∧ ReceiverState runningCall.link :=
  ⟨runningCall_steps, by unfold QueueBounds; decide +kernel, by unfold AttnFollows; decide +kernel, .inl (by decide +kernel)⟩

theorem echoState_call : EchoState (call.ch 0) where
  near := by decide +kernel
  far := by decide +kernel
  eqTaps := by decide +kernel
  delay := by decide +kernel
  train := by decide +kernel
  trainTop := by decide +kernel
  extension n h := by
    have : (call.ch 0).echo.extension = none := by decide +kernel
    rw [this] at h; cases h
  thenMode := by decide +kernel
  checkpoint k h := by
    have : (call.ch 0).echo.checkpoint = none := by decide +kernel
    rw [this] at h; cases h
  strikes := by decide +kernel
  guard := by decide +kernel
  span := by decide +kernel
  cursors set := .inl (by cases set <;> decide +kernel)

theorem witness_EchoStatesAreKept : (∃ t, step runningCall = .next t) ∧ EchoStates runningCall := by
  refine ⟨runningCall_steps, fun c h => ?_⟩
  have hf : ∀ c : ChanId, (call.ch c).state ≠ .free → c = 0 := by decide +kernel
  obtain rfl := hf c h
  exact echoState_call

theorem inRange_default : InRange defaultProfile :=
  ⟨by decide, by decide, by decide, by decide, by decide, by decide, by decide, by decide, by decide⟩

theorem witness_ListsAndRangesAreKept :
    (∃ t, step runningCall = .next t) ∧ ProfileRanges runningCall ∧ PendingLists runningCall
      ∧ QualityRanges runningCall := by
  refine ⟨runningCall_steps, ⟨fun k => ?_, fun c => ?_⟩, ?_, ?_⟩
  · have : runningCall.profile k = defaultProfile := by
      have hp : ∀ i : Fin 7, runningCall.profiles[i.val] = defaultProfile := by decide +kernel
      unfold State.profile
      split
      · exact hp ⟨k - 1, by omega⟩
      · rfl
    rw [this]; exact inRange_default
  · have : ∀ c : ChanId, (call.ch c).params = defaultProfile := by decide +kernel
    show InRange (call.ch c).params
    rw [this c]; exact inRange_default
  · unfold PendingLists PendingList; decide +kernel
  · unfold QualityRanges QualityRange; decide +kernel

theorem witness_SurveysAreKept :
    (∃ t, step { crowded [waiting4] with pending := [.huntSync [true]] } = .next t)
      ∧ SurveyUnits { crowded [waiting4] with pending := [.huntSync [true]] }
      ∧ NoIdleCorrelator { crowded [waiting4] with pending := [.huntSync [true]] } :=
  ⟨next_of_completes (by decide +kernel),
    surveyUnits_waiting surveyUnits_crowded.2 _, noIdle_waiting noIdle_crowded.2 _⟩

/-- The longest payload, and the last bit of a slot and of a byte. -/
theorem witness_FramesRoundTrip :
    (req 0x30 0 (List.replicate 512 0)).payload.length ≤ 1024 ∧ (clockedTo 1023 false call).highway.bitCount = 16 * 63 + 15
      ∧ 1024 ≤ (clockedTo 1024 false call).highway.bitCount := by decide +kernel

/-- Bytes of a frame at the boundaries of the receiver's states: 4 and 5 after the start byte, lengths 1024 and 1025, a body of
one and of two bytes for an empty payload, a check that differs, and a frame accepted. -/
theorem witness_FramesRoundTrip_parsed :
    ([1, 2, 3, 4] : List Byte).length < 5 ∧ (0x00 : Byte).toNat + 256 * (0x04 : Byte).toNat = 1024
      ∧ 1024 < (0x01 : Byte).toNat + 256 * (0x04 : Byte).toNat
      ∧ ([0] : List Byte).length < 0 + 2 ∧ 0 + 2 ≤ ([0, 0] : List Byte).length
      ∧ (([0, 0] : List Byte).drop 0).take 2
          ≠ [(checkOf [1, 0xFF, 0, 0, 0]).setWidth 8, (checkOf [1, 0xFF, 0, 0, 0] >>> 8).setWidth 8]
      ∧ parseFrame (frameBytes (req 0x01 0xFF [])) = .complete (req 0x01 0xFF []) [] := by decide +kernel

/-- The ends of the estimator's range, a probe state, and measured attributes. -/
theorem witness_EstimatorsAndProbe :
    (0 : Nat) ≤ 32767 ∧ (32767 : Nat) ≤ 32767 ∧ (1 : BitVec 15) ≠ 0 ∧ min ((0 : Sample).toInt * (0 : Sample).toInt / 32768) 32767 < 1
      ∧ ([1, 2] : List Sample)[1]? = some 2 ∧ ([0, 5] : List Int)[1]? = some 5 ∧ ([0, 5] : List Int) ≠ [] ∧ (1 : Nat) ≤ 1
      ∧ (0 : Int) ≤ min ((100 : Sample).toInt * (100 : Sample).toInt / 32768) 32767 ∧ erleValue 16 0 = some 12
      ∧ mseValue 0 64 = some 45 := by decide +kernel

end Sys2Proof.Tests
end

section
/-! SUPPORT. What a request row does with a request the processor takes: the answer of its own act, with the head off
the queue and the reply placed (R195, R196). -/

namespace Sys2Proof.Proofs
open Sys2Proof.Machine Sys2Proof.Safety

@[simp] theorem chanOf_chanByte (c : ChanId) : chanOf (chanByte c) = some c := by
  have hlt := c.isLt
  have hn : (chanByte c).toNat = c.val := by
    simp only [chanByte, BitVec.toNat_ofNat]
    omega
  simp [chanOf, hn]

@[simp] theorem lengthIs_eq_true {n len : Nat} : lengthIs n len = true ↔ len = n := by simp [lengthIs]

/-- The state with the head of the request queue taken off. -/
def dequeued (s : State) (rest : List Frame) : State := s.modLink fun l => { l with requests := rest }

@[simp] theorem dequeued_ch (s : State) (rest : List Frame) (c : ChanId) : (dequeued s rest).ch c = s.ch c := rfl

/-- A change of a channel and the taking of the head act on different parts of the state. -/
theorem dequeued_setCh (s : State) (rest : List Frame) (c : ChanId) (x : Channel) :
    (dequeued s rest).setCh c x = dequeued (s.setCh c x) rest := rfl

/-- ATTN is due once a reply has been placed (R189). -/
theorem attnDue_placeReply (s : State) (r : Reply) : attnDue (s.placeReply r).link = true := by
  simp [attnDue]

/-- Placing the reply and letting ATTN follow gives the answered state of the statements. -/
theorem settle_placeReply_dequeued (t : State) (f : Frame) (rest : List Frame) (code : ResultCode) (items : List Word) :
    ((dequeued t rest).placeReply ⟨replyKind f, f.channel, f.tag, code, items⟩).settle
      = answered t f rest code items := by
  rw [State.settle, State.modLink, attnDue_placeReply]
  rfl

/-- A row of one kind carries out the request at the head when the processor is ready to take it (R195). -/
theorem takeKind_of_ready {s : State} {f : Frame} {rest : List Frame} {kind : Byte} {act : State → Frame → Answer}
    (hr : Ready s f rest) (hk : f.kind = kind) : takeKind kind act s = (s.takeHead f rest (replyKind f) act).done := by
  simp [takeKind, takeRequest, hr.high, hr.head, hr.room, hk, Config.replyMax]

/-- A channel request whose channel and length pass answers as its own act does (R38, R195). -/
theorem takeKind_channelRequest {s t : State} {f : Frame} {rest : List Frame} {c : ChanId} {kind : Byte}
    {lengthOk : Nat → Bool} {act : State → Frame → ChanId → Answer} {code : ResultCode} {items : List Word}
    (hr : Ready s f rest) (hk : f.kind = kind) (hc : f.channel = chanByte c) (hl : lengthOk f.payload.length = true)
    (ha : act (dequeued s rest) f c = ⟨dequeued t rest, code, items⟩) :
    takeKind kind (channelRequest lengthOk act) s = .next (answered t f rest code items) := by
  have hq : channelRequest lengthOk act (dequeued s rest) f = ⟨dequeued t rest, code, items⟩ := by
    simp [channelRequest, hc, hl, ha]
  rw [takeKind_of_ready hr hk, State.takeHead, ← dequeued, hq, State.done_eq, settle_placeReply_dequeued]

end Sys2Proof.Proofs
end

section
/-! PROOF. ECHO_MODE (R91 to R93): its act by the mode its code names, and the statement of the whole request. -/

namespace Sys2Proof.Proofs
open Sys2Proof.Machine Sys2Proof.Safety

/-! ### The operands -/

theorem echoModeOf_eq_none {code : Nat} (h : 3 ≤ code) : echoModeOf code = none := by
  match code, h with
  | _ + 3, _ => rfl

/-- The train count is refused exactly when 0 is given (R91), and is 8000 when none is (R92). -/
theorem trainCountOf_eq (present : Bool) (count : Nat) :
    trainCountOf present count
      = if present = true ∧ count = 0 then none else some (if present then count else 8000) := by
  cases present <;> simp [trainCountOf, Config.trainDefault]

/-- The then-mode is refused exactly when one is given that is neither HOLD nor TRACK (R91), and is TRACK when none is
given (R92). -/
theorem thenModeOf_eq (present : Bool) (code : Nat) :
    thenModeOf present code
      = if present = true ∧ code ≠ 0 ∧ code ≠ 2 then none
        else some (if present = true ∧ code = 0 then .hold else .track) := by
  cases present with
  | false => simp [thenModeOf]
  | true =>
    match code with
    | 0 | 1 | 2 => rfl
    | k + 3 => simp [thenModeOf, echoModeOf_eq_none]

/-- An ECHO_MODE of mode TRAIN whose count or then-mode is refused (R91). -/
def BadTrain (f : Frame) : Prop :=
  f.value 0 = 1 ∧ ((f.flag 1 0 = true ∧ f.value 2 = 0) ∨ (f.flag 1 1 = true ∧ f.value 3 ≠ 0 ∧ f.value 3 ≠ 2))

/-- The count an ECHO_MODE TRAIN sets: the one given, or 8000 (R92). -/
def givenCount (f : Frame) : Nat := if f.flag 1 0 then f.value 2 else 8000

/-- The then-mode an ECHO_MODE TRAIN sets: the one given, or TRACK (R92). -/
def givenThenMode (f : Frame) : EchoMode := if f.flag 1 1 = true ∧ f.value 3 = 0 then .hold else .track

/-! ### The act -/

/-- A mode code that names none, or a TRAIN with a refused count or then-mode (R91). -/
theorem actEchoMode_malformed {f : Frame} (h : 3 ≤ f.value 0 ∨ BadTrain f) (s : State) (c : ChanId) :
    actEchoMode s f c = refuse s .malformed := by
  obtain h | ⟨hm, hbad⟩ := h
  · simp [actEchoMode, echoModeOf_eq_none h]
  · obtain hcount | hthen := hbad
    · simp [actEchoMode, hm, echoModeOf, trainCountOf_eq, hcount]
    · simp [actEchoMode, hm, echoModeOf, thenModeOf_eq, hthen]

theorem actEchoMode_hold {f : Frame} (h : f.value 0 = 0) (s : State) (c : ChanId) :
    actEchoMode s f c = answerEchoMode s c .hold 0 (s.ch c).echo.thenMode := by
  simp [actEchoMode, h, echoModeOf]

theorem actEchoMode_track {f : Frame} (h : f.value 0 = 2) (s : State) (c : ChanId) :
    actEchoMode s f c = answerEchoMode s c .track 0 (s.ch c).echo.thenMode := by
  simp [actEchoMode, h, echoModeOf]

theorem actEchoMode_train {f : Frame} (h : f.value 0 = 1) (hb : ¬ BadTrain f) (s : State) (c : ChanId) :
    actEchoMode s f c = answerEchoMode s c .train (givenCount f) (givenThenMode f) := by
  obtain ⟨hcount, hthen⟩ := not_or.1 fun hbad => hb ⟨h, hbad⟩
  simp only [actEchoMode, h, echoModeOf, trainCountOf_eq, thenModeOf_eq, if_neg hcount, if_neg hthen]
  rfl

/-- A request that is not malformed sets some mode, count and then-mode, if the channel is OPEN. -/
theorem actEchoMode_wellFormed {f : Frame} (h : f.value 0 ≤ 2) (hb : ¬ BadTrain f) (s : State) (c : ChanId) :
    ∃ mode count thenMode, actEchoMode s f c = answerEchoMode s c mode count thenMode := by
  obtain h | h | h : f.value 0 = 0 ∨ f.value 0 = 1 ∨ f.value 0 = 2 := by omega
  · exact ⟨_, _, _, actEchoMode_hold h s c⟩
  · exact ⟨_, _, _, actEchoMode_train h hb s c⟩
  · exact ⟨_, _, _, actEchoMode_track h s c⟩

theorem answerEchoMode_notOpen {s : State} {c : ChanId} (h : (s.ch c).state ≠ .opened) (mode : EchoMode) (count : Nat)
    (thenMode : EchoMode) : answerEchoMode s c mode count thenMode = refuse s .wrongState := by
  simp [answerEchoMode, inStates, h]

theorem answerEchoMode_open {s : State} {c : ChanId} (h : (s.ch c).state = .opened) (mode : EchoMode) (count : Nat)
    (thenMode : EchoMode) :
    answerEchoMode s c mode count thenMode
      = ⟨s.setCh c (setEchoMode (s.ch c) mode count thenMode), .ok,
          [echoModeWord mode, natWord count, echoModeWord thenMode]⟩ := by
  simp [answerEchoMode, inStates, h, State.modCh, echoModeItems, setEchoMode]

/-! ### The request -/

theorem exec_echoMode (s : State) : exec .echoMode s = takeKind 0x13 (channelRequest (lengthIs 8) actEchoMode) s := rfl

section
variable {s : State} {f : Frame} {rest : List Frame} {c : ChanId}

/-- A taken ECHO_MODE refused by its act leaves all but the queues as it stands (R195). -/
theorem exec_echoMode_refused {code : ResultCode} (hr : Ready s f rest) (hk : f.kind = 0x13)
    (hc : f.channel = chanByte c) (hl : f.payload.length = 8)
    (ha : actEchoMode (dequeued s rest) f c = refuse (dequeued s rest) code) :
    exec .echoMode s = .next (answered s f rest code []) := by
  rw [exec_echoMode]
  exact takeKind_channelRequest hr hk hc (lengthIs_eq_true.2 hl) ha

/-- A taken ECHO_MODE on an OPEN channel sets the echo part its act names and answers with it (R91). -/
theorem exec_echoMode_sets {mode thenMode : EchoMode} {count : Nat} (hr : Ready s f rest) (hk : f.kind = 0x13)
    (hc : f.channel = chanByte c) (hl : f.payload.length = 8) (ho : (s.ch c).state = .opened)
    (ha : actEchoMode (dequeued s rest) f c = answerEchoMode (dequeued s rest) c mode count thenMode) :
    exec .echoMode s = .next (answered (s.setCh c (setEchoMode (s.ch c) mode count thenMode)) f rest .ok
      [echoModeWord mode, natWord count, echoModeWord thenMode]) := by
  rw [exec_echoMode]
  refine takeKind_channelRequest hr hk hc (lengthIs_eq_true.2 hl) ?_
  rw [ha, answerEchoMode_open (by simpa using ho), dequeued_ch, dequeued_setCh]

end

/-- Settles O39: the five clauses follow the act's branches, malformed, not OPEN, HOLD, TRACK and TRAIN. -/
theorem echoModeSets : Obligations.EchoModeSets := by
  intro s f rest c hr hk hc hl ch count after badTrain
  refine ⟨fun hbad => ?malformed, fun hmode hb hno => ?notOpen, fun hm ho => ?hold, fun hm ho => ?track,
    fun hm hb ho => ?train⟩
  case malformed => exact exec_echoMode_refused hr hk hc hl (actEchoMode_malformed hbad _ c)
  case notOpen =>
    obtain ⟨mode, n, thenMode, ha⟩ := actEchoMode_wellFormed hmode hb (dequeued s rest) c
    exact exec_echoMode_refused hr hk hc hl (ha.trans (answerEchoMode_notOpen (s := dequeued s rest) hno ..))
  case hold => exact exec_echoMode_sets hr hk hc hl ho (actEchoMode_hold hm _ c)
  case track => exact exec_echoMode_sets hr hk hc hl ho (actEchoMode_track hm _ c)
  case train =>
    have hset := exec_echoMode_sets hr hk hc hl ho (actEchoMode_train hm hb _ c)
    refine ⟨fun hgiven hcode => ?thenHold, fun hthen => ?thenTrack⟩
    case thenHold =>
      have ht : givenThenMode f = .hold := if_pos ⟨hgiven, hcode⟩
      rwa [ht] at hset
    case thenTrack =>
      have ht : givenThenMode f = .track := if_neg fun ⟨hgiven, hcode⟩ => by simp [hgiven, hcode] at hthen
      rwa [ht] at hset

end Sys2Proof.Proofs
end

section
/-! PROOF. EQ_MODE (R123, R124): its act by the mode its code names, and the statement of the whole request. -/

namespace Sys2Proof.Proofs
open Sys2Proof.Machine Sys2Proof.Safety Sys2Proof.Laws

/-! ### The operand -/

theorem eqModeOf_eq_none {code : Nat} (h : 4 ≤ code) : eqModeOf code = none := by
  match code, h with
  | _ + 4, _ => rfl

theorem eqModeOf_eqModeWord (mode : EqMode) : eqModeOf (eqModeWord mode).toNat = some mode := by
  cases mode <;> rfl

/-- A word that names an eq mode is the code of that mode (R209). -/
theorem exists_eqModeWord {f : Frame} (h : f.value 0 ≤ 3) : ∃ mode, f.word 0 = eqModeWord mode := by
  have hcode : f.value 0 = 0 ∨ f.value 0 = 1 ∨ f.value 0 = 2 ∨ f.value 0 = 3 := by omega
  obtain h | h | h | h := hcode
  · exact ⟨.bypass, BitVec.eq_of_toNat_eq h⟩
  · exact ⟨.hold, BitVec.eq_of_toNat_eq h⟩
  · exact ⟨.train, BitVec.eq_of_toNat_eq h⟩
  · exact ⟨.track, BitVec.eq_of_toNat_eq h⟩

/-! ### The mode set -/

/-- Entering BYPASS empties the pending-reference list and counts every entry missed (R124). -/
theorem setEqMode_bypass (s : State) (c : ChanId) :
    s.setEqMode c .bypass = s.setCh c
      { s.ch c with
        eq := { (s.ch c).eq with mode := .bypass, pendingRefs := [] }
        counters :=
          { (s.ch c).counters with
            refsMissed := (s.ch c).counters.refsMissed + BitVec.ofNat 32 (s.ch c).eq.pendingRefs.length } } := by
  rw [setEqMode_eq]
  rfl

/-- Any other mode keeps the pending-reference list as it stands (R123). -/
theorem setEqMode_keepsPending {mode : EqMode} (h : mode ≠ .bypass) (s : State) (c : ChanId) :
    s.setEqMode c mode = s.setCh c { s.ch c with eq := { (s.ch c).eq with mode := mode } } := by
  simp only [State.setEqMode, if_neg h, State.modCh]

/-- Setting the mode and taking the head act on different parts of the state. -/
theorem dequeued_setEqMode (s : State) (rest : List Frame) (c : ChanId) (mode : EqMode) :
    (dequeued s rest).setEqMode c mode = dequeued (s.setEqMode c mode) rest := by
  rw [setEqMode_eq, setEqMode_eq]
  rfl

theorem expiredByMode_bypass (ch : Channel) : expiredByMode ch .bypass = ch.eq.pendingRefs.length := rfl

theorem expiredByMode_eq_zero {mode : EqMode} (h : mode ≠ .bypass) (ch : Channel) : expiredByMode ch mode = 0 := if_neg h

/-! ### The act -/

theorem actEqMode_malformed {f : Frame} (h : 4 ≤ f.value 0) (s : State) (c : ChanId) :
    actEqMode s f c = refuse s .malformed := by
  simp [actEqMode, eqModeOf_eq_none h]

/-- A mode of R209 is checked against the channel's state and then set (R38, R123). -/
theorem actEqMode_of_word {f : Frame} {mode : EqMode} (h : f.word 0 = eqModeWord mode) (s : State) (c : ChanId) :
    actEqMode s f c = inStates s c [.opened]
      ⟨s.setEqMode c mode, .ok, [eqModeWord mode, natWord (expiredByMode (s.ch c) mode)]⟩ := by
  simp only [actEqMode, Frame.value, h, eqModeOf_eqModeWord]

theorem inStates_of_mem {s : State} {c : ChanId} {states : List ChanState} (h : (s.ch c).state ∈ states) (a : Answer) :
    inStates s c states a = a := if_pos h

theorem inStates_of_not_mem {s : State} {c : ChanId} {states : List ChanState} (h : (s.ch c).state ∉ states)
    (a : Answer) : inStates s c states a = refuse s .wrongState := if_neg h

/-! ### The request -/

theorem exec_eqMode (s : State) : exec .eqMode s = takeKind 0x16 (channelRequest (lengthIs 2) actEqMode) s := rfl

section
variable {s : State} {f : Frame} {rest : List Frame} {c : ChanId}

/-- A taken EQ_MODE refused by its act leaves all but the queues as it stands (R195). -/
theorem exec_eqMode_refused {code : ResultCode} (hr : Ready s f rest) (hk : f.kind = 0x16)
    (hc : f.channel = chanByte c) (hl : f.payload.length = 2)
    (ha : actEqMode (dequeued s rest) f c = refuse (dequeued s rest) code) :
    exec .eqMode s = .next (answered s f rest code []) := by
  rw [exec_eqMode]
  exact takeKind_channelRequest hr hk hc (lengthIs_eq_true.2 hl) ha

/-- A taken EQ_MODE on an OPEN channel sets the mode its word names, and answers with it and the number expired (R123). -/
theorem exec_eqMode_sets {mode : EqMode} (hr : Ready s f rest) (hk : f.kind = 0x16) (hc : f.channel = chanByte c)
    (hl : f.payload.length = 2) (ho : (s.ch c).state = .opened) (hw : f.word 0 = eqModeWord mode) :
    exec .eqMode s = .next (answered (s.setEqMode c mode) f rest .ok
      [eqModeWord mode, natWord (expiredByMode (s.ch c) mode)]) := by
  rw [exec_eqMode]
  refine takeKind_channelRequest hr hk hc (lengthIs_eq_true.2 hl) ?_
  have hopen : ((dequeued s rest).ch c).state ∈ [ChanState.opened] := by simp [ho]
  rw [actEqMode_of_word hw, inStates_of_mem hopen, dequeued_setEqMode, dequeued_ch]

end

/-- Settles O42: the clauses follow the act's branches, malformed, not OPEN, BYPASS, and the modes that keep the list. -/
theorem eqModeSets : Obligations.EqModeSets := by
  intro s f rest c hr hk hc hl ch
  refine ⟨fun hbad => ?malformed, fun hmode hno => ?notOpen, fun ho hzero => ?bypass, fun mode v hmem ho hw => ?keeps⟩
  case malformed => exact exec_eqMode_refused hr hk hc hl (actEqMode_malformed hbad _ c)
  case notOpen =>
    obtain ⟨mode, hw⟩ := exists_eqModeWord hmode
    have hclosed : ((dequeued s rest).ch c).state ∉ [ChanState.opened] := by simpa using hno
    exact exec_eqMode_refused hr hk hc hl ((actEqMode_of_word hw _ c).trans (inStates_of_not_mem hclosed _))
  case bypass =>
    have hw : f.word 0 = eqModeWord .bypass := BitVec.eq_of_toNat_eq hzero
    rw [exec_eqMode_sets hr hk hc hl ho hw, setEqMode_bypass, expiredByMode_bypass]
    rfl
  case keeps =>
    have hcode : mode ≠ .bypass ∧ v = eqModeWord mode := by
      simp only [List.mem_cons, Prod.mk.injEq, List.not_mem_nil, or_false] at hmem
      obtain ⟨rfl, rfl⟩ | ⟨rfl, rfl⟩ | ⟨rfl, rfl⟩ := hmem <;> exact ⟨nofun, rfl⟩
    obtain ⟨hne, rfl⟩ := hcode
    rw [exec_eqMode_sets hr hk hc hl ho hw, setEqMode_keepsPending hne, expiredByMode_eq_zero hne]
    rfl

end Sys2Proof.Proofs
end

section
/-! SUPPORT. What the byte that completes a frame brings about, and what a request row does with a request of its own. -/

namespace Sys2Proof.Proofs
open Sys2Proof.Machine Sys2Proof.Safety Sys2Proof.Laws

/-! ### Reception -/

/-- Bits that complete a frame whose check agrees bring about its acceptance (R191). -/
theorem rxEvent_of_completes {s : State} {sdi : List Bool} {f : Frame} (hc : Completes s sdi f) :
    rxEvent s.link sdi = .accept f := by
  obtain ⟨-, height, hheld, hparse⟩ := hc
  obtain ⟨hlt, -⟩ | ⟨-, hev⟩ | ⟨hgt, -⟩ := rxEvent_cases s.link sdi
  case inl => rw [List.length_append] at hlt; omega
  case inr.inr => rw [List.length_append] at hgt; omega
  case inr.inl =>
    obtain ⟨start, held, hbytes⟩ := List.exists_cons_of_ne_nil hheld
    rw [hbytes, List.cons_append] at hparse
    rw [hev]
    simp only [byteEvent, hbytes, hparse]

theorem setReceiver_hunt_nil (s : State) : s.setReceiver .hunt [] = hunting s := rfl

/-! ### ATTN -/

/-- Neither the receiver nor the request queue has a part in ATTN (R189). -/
theorem attnDue_hunting_requests (s : State) (requests : List Frame) :
    attnDue { (hunting s).link with requests := requests } = attnDue s.link := rfl

theorem placeNotice_ne_nil (channel : Byte) (body : NoticeBody) (l : List Notice) : placeNotice channel body l ≠ [] := by
  cases l with
  | nil => simp [placeNotice]
  | cons n ns =>
    unfold placeNotice
    split <;> exact List.cons_ne_nil _ _

/-- A notice raised leaves ATTN asserted (R189, R198). -/
theorem settle_raise (s : State) (channel : Byte) (body : NoticeBody) :
    (s.raise channel body).settle = noticed s channel body := by
  have hdue : attnDue (s.raise channel body).link = true := by simp [attnDue, placeNotice_ne_nil]
  rw [State.settle, State.modLink, hdue]
  rfl

/-! ### Requests taken -/

/-- A request row carries out a request of its own at the head when the processor is ready to take it (R195). -/
theorem takeRequest_of_ready {s : State} {f : Frame} {rest : List Frame} {mine : Frame → Bool} (hr : Ready s f rest)
    (hm : mine f = true) (kind : Frame → Byte) (act : State → Frame → Answer) :
    takeRequest s mine kind act = .next (s.takeHead f rest (kind f) act).settle := by
  simp [takeRequest, hr.high, hr.head, hr.room, hm, Config.replyMax]

/-- A reply of any kind placed behind a taken request leaves ATTN asserted (R189, R195). -/
theorem settle_placeReply (s : State) (rest : List Frame) (r : Reply) :
    ((dequeued s rest).placeReply r).settle
      = { s with link := { s.link with requests := rest, replies := s.link.replies ++ [r], attn := true } } := by
  rw [State.settle, State.modLink, attnDue_placeReply]
  rfl

/-- A device request whose length passes answers as its own act does; its channel field is not read (R195). -/
theorem takeKind_deviceRequest {s t : State} {f : Frame} {rest : List Frame} {kind : Byte} {lengthOk : Nat → Bool}
    {act : State → Frame → Answer} {code : ResultCode} {items : List Word} (hr : Ready s f rest) (hk : f.kind = kind)
    (hl : lengthOk f.payload.length = true) (ha : act (dequeued s rest) f = ⟨dequeued t rest, code, items⟩) :
    takeKind kind (deviceRequest lengthOk act) s = .next (answered t f rest code items) := by
  have hq : deviceRequest lengthOk act (dequeued s rest) f = ⟨dequeued t rest, code, items⟩ := by
    simp [deviceRequest, hl, ha]
  rw [takeKind_of_ready hr hk, State.takeHead, ← dequeued, hq, State.done_eq, settle_placeReply_dequeued]

end Sys2Proof.Proofs
end

section
/-! PROOF. REQUEST_ARRIVAL (R193, R194, R200): the frame accepted, the two branches of its arrival, and the statement. -/

namespace Sys2Proof.Proofs
open Sys2Proof.Machine Sys2Proof.Safety

/-! ### The arrival at the queue -/

theorem arriveRequest_of_lt {s : State} (h : s.link.requests.length < 16) (f : Frame) :
    arriveRequest s f = s.modLink fun l => { l with requests := l.requests ++ [f] } := if_pos h

theorem arriveRequest_of_full {s : State} (h : 16 ≤ s.link.requests.length) (f : Frame) :
    arriveRequest s f = (s.countDev fun d => { d with linkRequestsDropped := d.linkRequestsDropped + 1 }).raise 0xFF
      (.link .requestDropped f.kind f.tag) := if_neg (Nat.not_lt.2 h)

/-- A request that joins the queue leaves ATTN as it follows (R189, R194). -/
theorem settle_joined {s : State} (ha : AttnFollows s) (f : Frame) :
    ((hunting s).modLink fun l => { l with requests := l.requests ++ [f] }).settle
      = { hunting s with link := { (hunting s).link with requests := s.link.requests ++ [f] } } := by
  have hdue : attnDue ((hunting s).modLink fun l => { l with requests := l.requests ++ [f] }).link = s.link.attn :=
    (attnDue_hunting_requests s _).trans ha.symm
  rw [State.settle, State.modLink, hdue]
  rfl

/-! ### The command -/

/-- The byte that completes a frame that is no data block brings it to the request queue, the receiver in HUNT (R193). -/
theorem exec_requestArrival {s : State} {sdi : List Bool} {f : Frame} (hc : Completes s sdi f) (htx : f.kind ≠ 0x20)
    (href : f.kind ≠ 0x21) : exec (.requestArrival sdi) s = .next (arriveRequest (hunting s) f).settle := by
  have hkind : f.kind ≠ txBlockKind ∧ f.kind ≠ refBlockKind := ⟨htx, href⟩
  change execRequestArrival sdi s = _
  simp only [execRequestArrival, unlessHeld_high _ _ hc.high, rxEvent_of_completes hc, if_pos hkind,
    setReceiver_hunt_nil, State.done_eq]

/-- Settles O23: the two clauses are the branches of the arrival, at fewer than 16 requests and at 16. -/
theorem requestJoinsOrDrops : Obligations.RequestJoinsOrDrops := by
  intro s sdi f hc ha htx href
  rw [exec_requestArrival hc htx href]
  refine ⟨fun hroom => ?joins, fun hfull => ?dropped⟩
  case joins => rw [arriveRequest_of_lt (s := hunting s) hroom, settle_joined ha]
  case dropped =>
    rw [arriveRequest_of_full (s := hunting s) hfull, settle_raise]
    rfl

end Sys2Proof.Proofs
end

section
/-! PROOF. UNKNOWN_KIND (R195, R196) and INFO (R205): the kinds that no row takes, the ten items, and the statement. -/

namespace Sys2Proof.Proofs
open Sys2Proof.Machine Sys2Proof.Safety

/-! ### UNKNOWN_KIND -/

/-- Every kind of R209 has a row of its own. -/
theorem requestRow_ne_unknownKind : ∀ kind ∈ requestKinds, requestRow kind ≠ .unknownKind := by decide

theorem isUnknownKind_of_requestRow {f : Frame} (h : requestRow f.kind = .unknownKind) : isUnknownKind f = true := by
  have hnot : f.kind ∉ requestKinds := fun hmem => requestRow_ne_unknownKind f.kind hmem h
  simpa [isUnknownKind] using hnot

theorem exec_unknownKind (s : State) :
    exec .unknownKind s = takeRequest s isUnknownKind (fun _ => 0x80) actUnknownKind := rfl

/-- A taken request of unknown kind gets its one reply, of kind 0x80 with the kind received (R195, R196). -/
theorem takeHead_unknownKind (s : State) (f : Frame) (rest : List Frame) :
    s.takeHead f rest 0x80 actUnknownKind
      = (dequeued s rest).placeReply ⟨0x80, f.channel, f.tag, .unknownKind, [f.kind.setWidth 16]⟩ := rfl

/-! ### INFO -/

theorem exec_info (s : State) : exec .info s = takeKind 0x01 (deviceRequest (lengthIs 0) actInfo) s := rfl

/-- Taking the head off the request queue shows in none of the items (R205). -/
theorem actInfo_dequeued (s : State) (rest : List Frame) (f : Frame) :
    actInfo (dequeued s rest) f = ⟨dequeued s rest, .ok, infoItems s⟩ := rfl

/-- The ten items of R205, with their constants as the statement writes them. -/
theorem infoItems_eq (s : State) :
    infoItems s = [0x0428, 1, 40, 64, 7680, BitVec.ofNat 16 s.freeTaps, 1280, BitVec.ofNat 16 s.freePages.length,
      if s.lock then 1 else 0, match s.highway.state with | .hunt => 0 | .synced => 1 | .lost => 2] := rfl

/-- Settles O29: an unknown kind and INFO each answer from the queues alone; STARTED carries the part's two constants. -/
theorem unknownKindAndInfo : Obligations.UnknownKindAndInfo := by
  refine ⟨fun s f rest hr hrow => ?unknown, fun s f rest hr hk hp => ?info, rfl⟩
  case unknown =>
    rw [exec_unknownKind, takeRequest_of_ready hr (isUnknownKind_of_requestRow hrow), takeHead_unknownKind,
      settle_placeReply]
  case info =>
    have hlen : f.payload.length = 0 := by rw [hp, List.length_nil]
    have htaken := takeKind_deviceRequest hr hk (lengthIs_eq_true.2 hlen) (actInfo_dequeued s rest f)
    rw [infoItems_eq] at htaken
    exact htaken

end Sys2Proof.Proofs
end

section
/-! PROOF. The pools and the slot map (R30, R58 to R60, R67): which acts touch what the channels hold, and the two
invariants, each proved once per such act. -/

namespace Sys2Proof.Proofs
open Sys2Proof.Machine Sys2Proof.Safety Sys2Proof.Laws

/-! ### What an act does to the holdings -/

/-- Two contexts that hold the same slot, pages and params, and are both FREE or both not. -/
structure SameHolding (x y : Channel) : Prop where
  free : y.state = .free ↔ x.state = .free
  slot : y.slot = x.slot
  params : y.params = x.params
  pages : y.pages = x.pages

/-- Nothing of the pools, the slot map and the channels' holdings has moved. -/
structure SameHoldings (s t : State) : Prop where
  taps : t.freeTaps = s.freeTaps
  freePages : t.freePages = s.freePages
  slotMap : t.highway.slotMap = s.highway.slotMap
  chans : ∀ d : ChanId, SameHolding (s.ch d) (t.ch d)

/-- The pools, the slot map and the channels as RESET and power-up leave them (R30, R58, R67). -/
structure NothingHeld (t : State) : Prop where
  taps : t.freeTaps = 7680
  freePages : t.freePages = List.range 1280
  slotMap : t.highway.slotMap = Vector.replicate 64 none
  chans : ∀ d : ChanId, t.ch d = Channel.blank ChanCounters.zero

theorem SameHolding.refl (x : Channel) : SameHolding x x := ⟨.rfl, rfl, rfl, rfl⟩

theorem SameHolding.trans {x y z : Channel} (h : SameHolding x y) (k : SameHolding y z) : SameHolding x z :=
  ⟨k.free.trans h.free, k.slot.trans h.slot, k.params.trans h.params, k.pages.trans h.pages⟩

theorem sameHolding_step {x y : Channel} (h : ChanStep x y) : SameHolding x y := by
  obtain ⟨hfree, hslot, hparams, hpages, -⟩ := h.frame
  exact ⟨hfree, hslot, hparams, hpages⟩

/-- What the survey unit writes of a context is no holding. -/
theorem sameHolding_shared {x y : Channel} (h : ∃ sv lr k p, y = withShared x sv lr k p) : SameHolding x y := by
  obtain ⟨_, _, _, _, rfl⟩ := h
  exact ⟨.rfl, rfl, rfl, rfl⟩

theorem sameHolding_guarded (x : Channel) : SameHolding x (guardIfOpen x) := by
  unfold guardIfOpen
  split <;> exact ⟨.rfl, rfl, rfl, rfl⟩

theorem sameHolding_quiesced {x : Channel} (h : x.state = .opened) : SameHolding x (quiescedChannel x) :=
  ⟨by simp [quiescedChannel, h], rfl, rfl, rfl⟩

/-- An update that moves only the survey unit and the contexts moves no holding, if it moves none of a context. -/
theorem SameHoldings.ofChans {s t : State} (hrest : t = { s with dsu := t.dsu, channels := t.channels, link := t.link })
    (h : ∀ d : ChanId, SameHolding (s.ch d) (t.ch d)) : SameHoldings s t :=
  ⟨by rw [hrest], by rw [hrest], by rw [hrest], h⟩

theorem endRunning_rest (s : State) (c : ChanId) (i : Fin 4) (r : SurveyRecord) :
    s.endRunning c i r = { s with
      dsu := (s.endRunning c i r).dsu
      channels := (s.endRunning c i r).channels
      link := (s.endRunning c i r).link } := by
  unfold State.endRunning
  rw [(granted_runArbiter _).rest]
  rfl

theorem queueSurvey_rest (s : State) (e : SurveyEntry) :
    s.queueSurvey e = { s with
      dsu := (s.queueSurvey e).dsu
      channels := (s.queueSurvey e).channels
      link := (s.queueSurvey e).link } := by
  unfold State.queueSurvey
  rw [(granted_runArbiter _).rest]
  rfl

theorem recordWithdraw_rest (s : State) (c : ChanId) (r : SurveyRecord) :
    (s.recordSurvey c r).withdrawSurvey c = { s with
      dsu := ((s.recordSurvey c r).withdrawSurvey c).dsu
      channels := ((s.recordSurvey c r).withdrawSurvey c).channels
      link := ((s.recordSurvey c r).withdrawSurvey c).link } := by
  rw [(withdrawSurvey_granted _ c).rest]
  rfl

theorem cancelSurvey_rest (s : State) (c : ChanId) :
    s.cancelSurvey c = { s with
      dsu := (s.cancelSurvey c).dsu
      channels := (s.cancelSurvey c).channels
      link := (s.cancelSurvey c).link } := by
  unfold State.cancelSurvey
  split
  · rfl
  · exact recordWithdraw_rest s c _

theorem nothingHeld_resetPart (s : State) (revert : Bool) : NothingHeld (s.resetPart revert) :=
  ⟨by simp only [State.resetPart], by simp only [State.resetPart], by simp only [State.resetPart, Highway.reset],
    fun d => by simp⟩

theorem nothingHeld_powerUp (s : State) (low : Bool) : NothingHeld (s.powerUp.setNrst low) :=
  ⟨by simp [State.reset], by simp [State.reset], by simp [State.reset, Highway.reset], fun d => by simp⟩

/-- Every act but BIND, RELEASE, RESET and power-up leaves the holdings as they are. -/
theorem act_holdings {s t : State} (h : Act s t) :
    SameHoldings s t
      ∨ (∃ (c : ChanId) (sl : SlotId) (p : Profile), (s.ch c).state = .free ∧ s.slotOwner sl = none
          ∧ p.taps ≤ s.freeTaps ∧ t = s.admitCall c sl p)
      ∨ (∃ c : ChanId, (s.ch c).state ≠ .free ∧ t = s.release c)
      ∨ NothingHeld t := by
  have same : ∀ {t : State}, t.freeTaps = s.freeTaps → t.freePages = s.freePages →
      t.highway.slotMap = s.highway.slotMap → (∀ d : ChanId, t.ch d = s.ch d) → SameHoldings s t :=
    fun ht hp hm hc => ⟨ht, hp, hm, fun d => hc d ▸ .refl _⟩
  cases h with
  | highway h hm => exact .inl (same rfl rfl hm fun _ => rfl)
  | page | device | raised | link | unit | lock | snapshot | choice => exact .inl (same rfl rfl rfl fun _ => rfl)
  | profile k p _ => unfold State.setProfile; split <;> exact .inl (same rfl rfl rfl fun _ => rfl)
  | restarted => exact .inl (same (by simp) (by simp) (by simp) fun _ => by simp)
  | chan c x hx =>
    refine .inl ⟨rfl, rfl, rfl, fun d => ?_⟩
    rw [ch_setCh]
    split
    · next hd => exact hd ▸ sameHolding_step hx
    · exact .refl _
  | guarded => exact .inl ⟨by simp, by simp, by simp, fun d => by rw [State.guardOpen_ch]; exact sameHolding_guarded _⟩
  | clear => exact .inl ⟨by simp, by simp, by simp, fun d => by rw [State.clearCounters_ch]; exact ⟨.rfl, rfl, rfl, rfl⟩⟩
  | queue e => exact .inl (.ofChans (queueSurvey_rest s e) fun d => sameHolding_shared (queueSurvey_shared s e d))
  | surveyEnd c i r =>
    exact .inl (.ofChans (endRunning_rest s c i r) fun d => sameHolding_shared (endRunning_shared s c d i r))
  | cancel c r =>
    exact .inl (.ofChans (recordWithdraw_rest s c r) fun d =>
      sameHolding_shared (shared_trans (record_shared s c d r) (granted_shared (withdrawSurvey_granted _ c) d)))
  | quiesce c hc =>
    refine .inl (.ofChans ?_ fun d => ?_)
    · rw [State.modCh, State.setCh, cancelSurvey_rest]
    · refine (sameHolding_shared (cancel_shared s c d)).trans ?_
      rw [State.modCh, ch_setCh]
      split
      · next hd =>
        subst hd
        exact sameHolding_quiesced ((cancelSurvey_state s d d).trans hc)
      · exact .refl _
  | bind c sl k hf hs ht hp => exact .inr (.inl ⟨c, sl, s.profile k, hf, hs, ht, rfl⟩)
  | release c hf => exact .inr (.inr (.inl ⟨c, hf, rfl⟩))
  | reset r => exact .inr (.inr (.inr (nothingHeld_resetPart s r)))
  | powerUp low => exact .inr (.inr (.inr (nothingHeld_powerUp s low)))

/-- After a RELEASE the channel holds nothing, and every other holds what it held (R54). -/
theorem release_holding (s : State) (c d : ChanId) :
    SameHolding ((s.setCh c (Channel.blank (s.ch c).counters)).ch d) ((s.release c).ch d) := by
  rw [ch_setCh]
  obtain ⟨rfl, h⟩ | ⟨hne, h⟩ := release_ch s c d
  · rw [if_pos rfl, h]
    exact .refl _
  · rw [if_neg hne]
    exact sameHolding_shared h

/-- After an admitted BIND the channel holds BIND's context, and every other holds what it held (R41). -/
theorem admit_holding (s : State) (c : ChanId) (sl : SlotId) (p : Profile) (d : ChanId) :
    SameHolding ((s.setCh c (boundChannel sl p (s.freePages.take p.pagesNeeded))).ch d) ((s.admitCall c sl p).ch d) := by
  rw [admit_ch, ch_setCh]
  exact .refl _

/-! ### Sums over the holdings -/

/-- A share that two equal holdings have in common. -/
def OfHolding (f : Channel → Nat) : Prop := ∀ x y : Channel, SameHolding x y → f y = f x

theorem heldTaps_ofHolding : OfHolding heldTaps := fun x y h => by simp only [heldTaps, h.free, h.params]

theorem countPages_ofHolding (p : Nat) : OfHolding fun ch => ch.pages.count p := fun x y h => by simp only [h.pages]

/-- A total over the channels moves by the one context replaced, when the others keep their holdings. -/
theorem sum_replaced {f : Channel → Nat} (hf : OfHolding f) {s t : State} {c : ChanId} {x : Channel}
    (h : ∀ d : ChanId, SameHolding ((s.setCh c x).ch d) (t.ch d)) :
    ∑ d, f (t.ch d) + f (s.ch c) = ∑ d, f (s.ch d) + f x := by
  rw [Finset.sum_congr rfl fun d _ => hf _ _ (h d)]
  exact sum_setCh s c x

/-! ### The tap pool -/

theorem tapPool_nothingHeld {t : State} (h : NothingHeld t) : TapPool t := by
  have hzero : ∑ d, heldTaps (t.ch d) = 0 := Finset.sum_eq_zero fun d _ => by rw [h.chans d]; rfl
  rw [TapPool, h.taps, hzero]

theorem tapPool_act {s t : State} (h : Act s t) (hs : TapPool s) : TapPool t := by
  unfold TapPool at *
  obtain hsame | ⟨c, sl, p, hfree, -, htaps, rfl⟩ | ⟨c, hheld, rfl⟩ | hnone := act_holdings h
  case inl => rw [hsame.taps, Finset.sum_congr rfl fun d _ => heldTaps_ofHolding _ _ (hsame.chans d), hs]
  case inr.inl =>
    have hsum := sum_replaced heldTaps_ofHolding (admit_holding s c sl p)
    have hbefore : heldTaps (s.ch c) = 0 := if_pos hfree
    have hafter : heldTaps (boundChannel sl p (s.freePages.take p.pagesNeeded)) = p.taps := rfl
    have hpool : (s.admitCall c sl p).freeTaps = s.freeTaps - p.taps := rfl
    omega
  case inr.inr.inl =>
    have hsum := sum_replaced heldTaps_ofHolding (release_holding s c)
    have hbefore : heldTaps (s.ch c) = (s.ch c).params.taps := if_neg hheld
    have hafter : heldTaps (Channel.blank (s.ch c).counters) = 0 := rfl
    have hpool : (s.release c).freeTaps = s.freeTaps + (s.ch c).params.taps := rfl
    omega
  case inr.inr.inr => exact tapPool_nothingHeld hnone

/-! ### The pages -/

theorem pagePlaces_nothingHeld {t : State} (h : NothingHeld t) : PagePlaces t := by
  refine ⟨fun page => ?_, fun d _ => by rw [h.chans d]; rfl⟩
  have hzero : ∑ d, (t.ch d).pages.count page = 0 := Finset.sum_eq_zero fun d _ => by rw [h.chans d]; rfl
  rw [hzero, h.freePages, List.nodup_range.count]
  simp

theorem pagePlaces_act {s t : State} (h : Act s t) (hs : PagePlaces s) : PagePlaces t := by
  obtain ⟨hplace, hempty⟩ := hs
  obtain hsame | ⟨c, sl, p, hfree, -, -, rfl⟩ | ⟨c, -, rfl⟩ | hnone := act_holdings h
  case inl =>
    refine ⟨fun page => ?_, fun d hd => ?_⟩
    · rw [hsame.freePages, Finset.sum_congr rfl fun d _ => countPages_ofHolding page _ _ (hsame.chans d), hplace]
    · rw [(hsame.chans d).pages]
      exact hempty d ((hsame.chans d).free.1 hd)
  case inr.inl =>
    refine ⟨fun page => ?_, fun d hd => ?_⟩
    · have hsum := sum_replaced (countPages_ofHolding page) (admit_holding s c sl p)
      have hbefore : (s.ch c).pages.count page = 0 := by rw [hempty c hfree, List.count_nil]
      have hafter : (boundChannel sl p (s.freePages.take p.pagesNeeded)).pages.count page
          = (s.freePages.take p.pagesNeeded).count page := rfl
      have hpool : (s.admitCall c sl p).freePages.count page = (s.freePages.drop p.pagesNeeded).count page := rfl
      have hsplit : s.freePages.count page
          = (s.freePages.take p.pagesNeeded).count page + (s.freePages.drop p.pagesNeeded).count page := by
        rw [← List.count_append, List.take_append_drop]
      have hall := hplace page
      omega
    · rw [admit_ch] at hd ⊢
      split at hd
      · cases hd
      · next hne => rw [if_neg hne]; exact hempty d hd
  case inr.inr.inl =>
    refine ⟨fun page => ?_, fun d hd => ?_⟩
    · have hsum := sum_replaced (countPages_ofHolding page) (release_holding s c)
      have hafter : (Channel.blank (s.ch c).counters).pages.count page = 0 := rfl
      have hpool : (s.release c).freePages.count page = s.freePages.count page + (s.ch c).pages.count page :=
        List.count_append
      have hall := hplace page
      omega
    · have hhold := release_holding s c d
      rw [hhold.pages, ch_setCh]
      split
      · rfl
      · next hne =>
        rw [ch_setCh, if_neg hne] at hhold
        exact hempty d (hhold.free.1 hd)
  case inr.inr.inr => exact pagePlaces_nothingHeld hnone

/-! ### The slot map -/

theorem slotOwner_congr {s t : State} (h : t.highway.slotMap = s.highway.slotMap) (sl : SlotId) :
    t.slotOwner sl = s.slotOwner sl := by
  unfold State.slotOwner
  rw [h]

theorem slotOwner_admitCall (s : State) (c : ChanId) (sl sm : SlotId) (p : Profile) :
    (s.admitCall c sl p).slotOwner sm = if sm = sl then some c else s.slotOwner sm := by
  change (s.setSlot sl (some c)).slotOwner sm = _
  split
  · next h => rw [h, State.setSlot_owner_same]
  · next h => rw [State.setSlot_owner_ne _ _ _ _ h]

theorem slotOwner_release (s : State) (c : ChanId) (sm : SlotId) :
    (s.release c).slotOwner sm = if (s.ch c).slot = some sm then none else s.slotOwner sm := by
  have hslot : ((s.withdrawSurvey c).ch c).slot = (s.ch c).slot :=
    (sameHolding_shared (granted_shared (withdrawSurvey_granted s c) c)).slot
  have howner : ∀ sl, (s.withdrawSurvey c).slotOwner sl = s.slotOwner sl :=
    slotOwner_congr (by rw [(withdrawSurvey_granted s c).rest])
  change ((s.withdrawSurvey c).unmap c).slotOwner sm = _
  unfold State.unmap
  rw [hslot]
  split
  · next sl hsl =>
    by_cases h : sm = sl
    · rw [if_pos (h ▸ hsl), h, State.setSlot_owner_same]
    · rw [if_neg fun hsm => h (Option.some.inj (hsm.symm.trans hsl)), State.setSlot_owner_ne _ _ _ _ h, howner]
  · next hnone => rw [if_neg (by rw [hnone]; exact nofun), howner]

theorem slotMap_nothingHeld {t : State} (h : NothingHeld t) : SlotMap t := by
  intro d
  rw [h.chans d]
  refine ⟨⟨fun _ => rfl, fun _ => rfl⟩, fun sl => ?_⟩
  simp [State.slotOwner, h.slotMap, Channel.blank]

theorem slotMap_act {s t : State} (h : Act s t) (hs : SlotMap s) : SlotMap t := by
  obtain hsame | ⟨c, sl, p, hfree, hidle, -, rfl⟩ | ⟨c, hheld, rfl⟩ | hnone := act_holdings h
  case inl =>
    intro d
    have hd := hsame.chans d
    refine ⟨by rw [hd.slot, hd.free, (hs d).1], fun sl => ?_⟩
    rw [hd.slot, slotOwner_congr hsame.slotMap, (hs d).2]
  case inr.inl =>
    intro d
    rw [admit_ch]
    by_cases hd : d = c
    · subst hd
      rw [if_pos rfl]
      refine ⟨⟨nofun, nofun⟩, fun sm => ?_⟩
      have hnone : s.slotOwner sm ≠ some d := fun ho => by
        rw [← (hs d).2, (hs d).1.2 hfree] at ho
        cases ho
      rw [slotOwner_admitCall]
      change some sl = some sm ↔ _
      split
      · next h => simp [h]
      · next h => simp [hnone, Ne.symm h]
    · rw [if_neg hd]
      refine ⟨(hs d).1, fun sm => ?_⟩
      rw [slotOwner_admitCall, (hs d).2]
      split
      · next h => simp [h, hidle, Ne.symm hd]
      · rfl
  case inr.inr.inl =>
    intro d
    obtain ⟨rfl, h⟩ | ⟨hne, h⟩ := release_ch s c d
    · rw [h]
      refine ⟨⟨fun _ => rfl, fun _ => rfl⟩, fun sm => ?_⟩
      rw [slotOwner_release]
      split
      · exact ⟨nofun, nofun⟩
      · next hsm => exact ⟨nofun, fun ho => absurd ((hs d).2 sm |>.2 ho) hsm⟩
    · have hhold := sameHolding_shared h
      refine ⟨by rw [hhold.slot, hhold.free, (hs d).1], fun sm => ?_⟩
      rw [hhold.slot, slotOwner_release, (hs d).2]
      split
      · next hsm => simp [((hs c).2 sm).1 hsm, Ne.symm hne]
      · rfl
  case inr.inr.inr => exact slotMap_nothingHeld hnone

/-! ### The statements -/

/-- Settles O51: both totals are kept by every act, and so by every step. -/
theorem poolsAreKept : Obligations.PoolsAreKept := fun _ _ h =>
  ⟨step_keep (fun _ _ => tapPool_act) (fun _ _ hs => hs) h, step_keep (fun _ _ => pagePlaces_act) (fun _ _ hs => hs) h⟩

/-- Settles O52: the agreement of slot map and slots is kept by every act, and so by every step. -/
theorem slotMapIsKept : Obligations.SlotMapIsKept := fun _ _ =>
  step_keep (fun _ _ => slotMap_act) fun _ _ hs => hs

end Sys2Proof.Proofs
end

section
/-! PROOF. The notice list (R198): where a notice raised is placed, and the list that every act keeps. -/

namespace Sys2Proof.Proofs
open Sys2Proof.Machine Sys2Proof.Safety Sys2Proof.Laws

/-! ### Placing a notice -/

/-- What tells two notices of the list apart (R198). -/
def noticeKey (n : Notice) : Byte × Byte := (n.channel, noticeKind n.body)

/-- A notice of its kind and channel waits already (R198). -/
def SameNotice (channel : Byte) (body : NoticeBody) (n : Notice) : Prop :=
  n.channel = channel ∧ noticeKind n.body = noticeKind body

theorem placeNotice_cons_same {channel : Byte} {body : NoticeBody} {n : Notice} (h : SameNotice channel body n)
    (ns : List Notice) :
    placeNotice channel body (n :: ns) = ⟨channel, min (n.occurrences + 1) 255, body⟩ :: ns := if_pos h

theorem placeNotice_cons_other {channel : Byte} {body : NoticeBody} {n : Notice} (h : ¬ SameNotice channel body n)
    (ns : List Notice) : placeNotice channel body (n :: ns) = n :: placeNotice channel body ns := if_neg h

/-- With none of its kind and channel waiting, a notice joins the tail (R198). -/
theorem placeNotice_new {channel : Byte} {body : NoticeBody} {l : List Notice}
    (h : ∀ n ∈ l, ¬ SameNotice channel body n) : placeNotice channel body l = l ++ [⟨channel, 1, body⟩] := by
  induction l with
  | nil => rfl
  | cons n ns ih =>
    obtain ⟨hn, hns⟩ := List.forall_mem_cons.1 h
    rw [placeNotice_cons_other hn, ih hns, List.cons_append]

/-- The waiting notice of its kind and channel keeps its place and counts one more occurrence (R198). -/
theorem placeNotice_waiting {channel : Byte} {body : NoticeBody} {before : List Notice} {n : Notice}
    (h : ∀ m ∈ before, ¬ SameNotice channel body m) (hn : SameNotice channel body n) (after : List Notice) :
    placeNotice channel body (before ++ n :: after)
      = before ++ ⟨channel, min (n.occurrences + 1) 255, body⟩ :: after := by
  induction before with
  | nil => exact placeNotice_cons_same hn after
  | cons m ms ih =>
    obtain ⟨hm, hms⟩ := List.forall_mem_cons.1 h
    rw [List.cons_append, placeNotice_cons_other hm, ih hms, List.cons_append]

/-- A list either holds no notice of a kind and channel, or splits at the first one. -/
theorem notices_split (channel : Byte) (body : NoticeBody) (l : List Notice) :
    (∀ n ∈ l, ¬ SameNotice channel body n)
      ∨ ∃ before n after, l = before ++ n :: after ∧ (∀ m ∈ before, ¬ SameNotice channel body m)
          ∧ SameNotice channel body n := by
  induction l with
  | nil => exact .inl (List.forall_mem_nil _)
  | cons n ns ih =>
    by_cases hn : SameNotice channel body n
    · exact .inr ⟨[], n, ns, rfl, List.forall_mem_nil _, hn⟩
    · obtain h | ⟨before, m, after, rfl, hb, hm⟩ := ih
      · exact .inl (List.forall_mem_cons.2 ⟨hn, h⟩)
      · exact .inr ⟨n :: before, m, after, rfl, List.forall_mem_cons.2 ⟨hn, hb⟩, hm⟩

/-- A notice raised waits, with its new content and a count of occurrences in range (R198). -/
theorem exists_mem_placeNotice (channel : Byte) (body : NoticeBody) (l : List Notice) :
    ∃ n ∈ placeNotice channel body l, n.channel = channel ∧ n.body = body := by
  obtain h | ⟨before, n, after, rfl, hb, hn⟩ := notices_split channel body l
  · exact ⟨⟨channel, 1, body⟩, by rw [placeNotice_new h]; simp, rfl, rfl⟩
  · exact ⟨⟨channel, min (n.occurrences + 1) 255, body⟩, by rw [placeNotice_waiting hb hn]; simp, rfl, rfl⟩

/-- An entry of the list after a notice is placed waited before, or is the one placed. -/
theorem mem_placeNotice {channel : Byte} {body : NoticeBody} {l : List Notice} {n : Notice}
    (h : n ∈ placeNotice channel body l) :
    n ∈ l ∨ (n.channel = channel ∧ n.body = body ∧ 1 ≤ n.occurrences ∧ n.occurrences ≤ 255) := by
  obtain hnew | ⟨before, m, after, rfl, hb, hm⟩ := notices_split channel body l
  · rw [placeNotice_new hnew, List.mem_append, List.mem_singleton] at h
    obtain h | rfl := h
    · exact .inl h
    · exact .inr ⟨rfl, rfl, le_refl 1, Nat.one_le_ofNat⟩
  · rw [placeNotice_waiting hb hm, List.mem_append, List.mem_cons] at h
    rw [List.mem_append, List.mem_cons]
    obtain h | rfl | h := h
    · exact .inl (.inl h)
    · exact .inr ⟨rfl, rfl, by dsimp only; omega, by dsimp only; omega⟩
    · exact .inl (.inr (.inr h))

/-- Any other entry stands (R198). -/
theorem mem_placeNotice_of_mem {channel : Byte} {body : NoticeBody} {l : List Notice} {n : Notice} (h : n ∈ l)
    (hn : ¬ SameNotice channel body n) : n ∈ placeNotice channel body l := by
  obtain hnew | ⟨before, m, after, rfl, hb, hm⟩ := notices_split channel body l
  · rw [placeNotice_new hnew]
    exact List.mem_append_left _ h
  · rw [placeNotice_waiting hb hm]
    rw [List.mem_append, List.mem_cons] at h ⊢
    obtain h | rfl | h := h
    · exact .inl h
    · exact absurd hm hn
    · exact .inr (.inr h)

/-- Placing a notice keeps the list without two of one kind and channel (R198). -/
theorem nodup_placeNotice {l : List Notice} (channel : Byte) (body : NoticeBody) (h : (l.map noticeKey).Nodup) :
    ((placeNotice channel body l).map noticeKey).Nodup := by
  obtain hnew | ⟨before, n, after, rfl, hb, hn⟩ := notices_split channel body l
  · rw [placeNotice_new hnew, List.map_append, List.nodup_append]
    refine ⟨h, List.nodup_singleton _, fun key hkey key' hkey' heq => ?_⟩
    obtain ⟨m, hm, rfl⟩ := List.mem_map.1 hkey
    exact hnew m hm (Prod.mk.inj (heq.trans (List.mem_singleton.1 hkey')))
  · rw [placeNotice_waiting hb hn]
    have hkey : noticeKey ⟨channel, min (n.occurrences + 1) 255, body⟩ = noticeKey n :=
      Prod.ext hn.1.symm hn.2.symm
    rwa [List.map_append, List.map_cons, hkey, ← List.map_cons, ← List.map_append]

/-! ### The list through an act -/

/-- A list of fewer notices, with no more channels FREE, is as R198 says when the list before was. -/
theorem noticeList_mono {s t : State} (hn : t.link.notices.Sublist s.link.notices)
    (hf : ∀ c : ChanId, (t.ch c).state = .free → (s.ch c).state = .free) (hs : NoticeList s) : NoticeList t := by
  obtain ⟨honce, hrange, hfree⟩ := hs
  exact ⟨honce.sublist (hn.map _), fun n h => hrange n (hn.subset h),
    fun n h c hc ht => hfree n (hn.subset h) c hc (hf c ht)⟩

theorem noticeList_raise {s : State} {b : Byte} (body : NoticeBody)
    (h : ∀ c : ChanId, b = chanByte c → (s.ch c).state ≠ .free) (hs : NoticeList s) : NoticeList (s.raise b body) := by
  obtain ⟨honce, hrange, hfree⟩ := hs
  refine ⟨nodup_placeNotice b body honce, fun n hn => ?_, fun n hn c hc => ?_⟩
  · obtain hn | ⟨-, -, hocc⟩ := mem_placeNotice hn
    · exact hrange n hn
    · exact hocc
  · obtain hn | ⟨hb, -⟩ := mem_placeNotice hn
    · exact hfree n hn c hc
    · exact h c (hb.symm.trans hc)

theorem noticeList_recordSurvey {s : State} {c : ChanId} (r : SurveyRecord) (hf : (s.ch c).state ≠ .free)
    (hs : NoticeList s) : NoticeList (s.recordSurvey c r) := by
  refine noticeList_raise _ (fun d hd => ?_) (noticeList_mono (s := s) (.refl _) (fun d hd => ?_) hs)
  · rw [← chanByte_inj hd, State.modCh_ch_same]
    exact hf
  · exact (recordSurvey_state s c d r).symm.trans hd

theorem noticeList_granted {s t : State} (h : Granted s t) (hs : NoticeList s) : NoticeList t :=
  noticeList_mono (by rw [h.link]) (fun c hc => (h.state c).symm.trans hc) hs

theorem noticeList_endRunning {s : State} {c : ChanId} (i : Fin 4) (r : SurveyRecord) (hf : (s.ch c).state ≠ .free)
    (hs : NoticeList s) : NoticeList (s.endRunning c i r) :=
  noticeList_granted ((Granted.unit _ i none).trans (granted_runArbiter _)) (noticeList_recordSurvey r hf hs)

theorem noticeList_cancelSurvey {s : State} {c : ChanId} (hf : (s.ch c).state ≠ .free) (hs : NoticeList s) :
    NoticeList (s.cancelSurvey c) := by
  unfold State.cancelSurvey
  split
  · exact hs
  · exact noticeList_granted (withdrawSurvey_granted _ c) (noticeList_recordSurvey _ hf hs)

/-- A RELEASE withdraws the notices of the channel it sets FREE (R54, R55). -/
theorem noticeList_release {s : State} (c : ChanId) (hs : NoticeList s) : NoticeList (s.release c) := by
  obtain ⟨honce, hrange, hfree⟩ := hs
  have hsub : (s.release c).link.notices.Sublist s.link.notices := List.filter_sublist
  refine ⟨honce.sublist (hsub.map _), fun n h => hrange n (hsub.subset h), fun n hn d hd => ?_⟩
  obtain ⟨rfl, -⟩ | ⟨-, hch⟩ := release_ch s c d
  · have hkept := (List.mem_filter.1 hn).2
    rw [hd] at hkept
    simp at hkept
  · rw [Ne, (sameHolding_shared hch).free]
    exact hfree n (hsub.subset hn) d hd

theorem noticeList_act {s t : State} (h : Act s t) (hs : NoticeList s) : NoticeList t := by
  cases h with
  | highway | page | device | unit | lock | snapshot | choice => exact hs
  | profile k p _ => unfold State.setProfile; split <;> exact hs
  | link l _ _ _ hn => exact noticeList_mono hn (fun _ h => h) hs
  | chan c x hx =>
    refine noticeList_mono (s := s) (.refl _) (fun d hd => ?_) hs
    rw [ch_setCh] at hd
    split at hd
    · next hdc => exact hdc ▸ (sameHolding_step hx).free.1 hd
    · exact hd
  | guarded =>
    refine noticeList_mono (by simp) (fun d hd => ?_) hs
    rw [State.guardOpen_ch] at hd
    exact (sameHolding_guarded _).free.1 hd
  | restarted => exact noticeList_mono (by simp) (fun d hd => by rwa [State.restartSurveys_ch] at hd) hs
  | clear => exact noticeList_mono (by simp) (fun d hd => by rwa [State.clearCounters_ch] at hd) hs
  | raised b body hb => exact noticeList_raise body hb hs
  | queue e =>
    refine noticeList_granted (granted_runArbiter _) (noticeList_mono (s := s) (.refl _) (fun d hd => ?_) hs)
    rw [State.modCh, ch_setCh] at hd
    split at hd
    · next hde => exact hde ▸ hd
    · exact hd
  | surveyEnd c i r _ hf => exact noticeList_endRunning i r hf hs
  | cancel c r _ hf => exact noticeList_granted (withdrawSurvey_granted _ c) (noticeList_recordSurvey r hf hs)
  | quiesce c hc =>
    refine noticeList_mono (s := s.cancelSurvey c) (.refl _) (fun d hd => ?_) (noticeList_cancelSurvey (by simp [hc]) hs)
    rw [State.modCh, ch_setCh] at hd
    split at hd
    · cases hd
    · exact hd
  | bind c sl k =>
    refine noticeList_mono (s := s) (.refl _) (fun d hd => ?_) hs
    rw [admit_ch] at hd
    split at hd
    · cases hd
    · exact hd
  | release c => exact noticeList_release c hs
  | reset r => exact ⟨List.nodup_nil, List.forall_mem_nil _, List.forall_mem_nil _⟩
  | powerUp low =>
    refine ⟨List.nodup_singleton _, fun n hn => ?_, fun n hn c hc => ?_⟩
    · rw [List.mem_singleton.1 hn]
      exact ⟨le_refl 1, by decide⟩
    · rw [List.mem_singleton.1 hn] at hc
      exact absurd hc (deviceByte_ne c)

/-- Settles O54: every act keeps the list, and a notice is placed at the tail or over the one of its kind that waits. -/
theorem noticeListIsKept : Obligations.NoticeListIsKept :=
  ⟨fun _ _ => step_keep (fun _ _ => noticeList_act) fun _ _ hs => hs, fun _ _ =>
    ⟨fun _ h => placeNotice_new h, fun _ after _ h hn => placeNotice_waiting h hn after⟩⟩

end Sys2Proof.Proofs
end

section
/-! PROOF. The link's bounds, ATTN and the receiver (R74, R188, R189, R191, R194, R197, R201): the bounds and the receiver
through every act, ATTN at the end of every command. -/

namespace Sys2Proof.Proofs
open Sys2Proof.Machine Sys2Proof.Safety Sys2Proof.Laws

/-! ### What an act does to the link -/

/-- What no act breaks of the link: its queues' bounds, the bits of an incomplete byte, and the receiver's state. -/
structure LinkStep (l l' : Link) : Prop where
  requests : l.requests.length ≤ 16 → l'.requests.length ≤ 16
  replies : l.replies.length ≤ 16 → l'.replies.length ≤ 16
  dataQueue : l.dataQueue.length ≤ 64 → l'.dataQueue.length ≤ 64
  bits : l.spiBits.length < 8 → l'.spiBits.length < 8
  receiver : ReceiverState l → ReceiverState l'

theorem LinkStep.refl (l : Link) : LinkStep l l := ⟨id, id, id, id, id⟩

theorem LinkStep.ofEq {l l' : Link} (h : l' = l) : LinkStep l l' := h ▸ .refl l

/-- The survey unit's notice and grants leave the link's bounds and receiver alone. -/
theorem linkStep_survey {s t : State} {c : ChanId} {r : SurveyRecord} (h : t.link = (s.recordSurvey c r).link) :
    LinkStep s.link t.link := by
  rw [h]
  exact ⟨id, id, id, id, id⟩

theorem linkStep_cancelSurvey (s : State) (c : ChanId) : LinkStep s.link (s.cancelSurvey c).link := by
  unfold State.cancelSurvey
  split
  · exact .refl _
  · exact linkStep_survey (withdrawSurvey_granted _ c).link

theorem dropBlocks_sublist (c : ChanId) (sending : Bool) (q : List EqBlock) : (dropBlocks c sending q).Sublist q := by
  cases sending with
  | false => exact List.filter_sublist
  | true =>
    have h := (List.Sublist.refl (q.take 1)).append
      (List.filter_sublist (l := q.drop 1) (p := fun b => decide (b.channel ≠ c)))
    rwa [List.take_append_drop] at h

theorem act_linkStep {s t : State} (h : Act s t) : LinkStep s.link t.link := by
  cases h with
  | highway | page | device | unit | lock | snapshot | choice | chan => exact .refl _
  | profile k p _ => unfold State.setProfile; split <;> exact .refl _
  | guarded => exact .ofEq (by simp)
  | restarted => exact .ofEq (by simp)
  | clear => exact .ofEq (by simp)
  | raised b body => exact ⟨id, id, id, id, id⟩
  | link l hq hr hd _ hb hx => exact ⟨hq, hr, hd, hb, hx⟩
  | queue e => exact .ofEq (granted_runArbiter _).link
  | surveyEnd c i r => exact linkStep_survey (endRunning_link s c i r)
  | cancel c r => exact linkStep_survey (withdrawSurvey_granted _ c).link
  | quiesce c => exact linkStep_cancelSurvey s c
  | bind => exact ⟨id, id, id, id, id⟩
  | release c => exact ⟨id, id, (dropBlocks_sublist _ _ _).length_le.trans, id, id⟩
  | reset => exact ⟨id, fun _ => Nat.zero_le _, fun _ => Nat.zero_le _, id, id⟩
  | powerUp =>
    exact ⟨fun _ => Nat.zero_le _, fun _ => Nat.zero_le _, fun _ => Nat.zero_le _, fun _ => Nat.zero_lt_succ 7,
      fun _ => .inl ⟨rfl, rfl⟩⟩

/-! ### The transmit queues -/

/-- Stage 1 of a turn takes the probe, silence, or the queue (R76, R77). -/
theorem chooseSample_cases (ch : Channel) (probing : Bool) :
    (probing = true ∧ chooseSample ch probing = chooseProbe ch)
      ∨ (probing = false ∧ ch.tx.state = .priming ∧ ch.level < ch.params.txStart
          ∧ chooseSample ch probing = ⟨ch, 0, none⟩)
      ∨ (probing = false ∧ (ch.tx.state = .running ∨ ch.params.txStart ≤ ch.level)
          ∧ chooseSample ch probing = chooseQueue ch) := by
  cases probing with
  | true => exact .inl ⟨rfl, rfl⟩
  | false =>
    cases hst : ch.tx.state with
    | running => exact .inr (.inr ⟨rfl, .inl rfl, by simp [chooseSample, hst]⟩)
    | priming =>
      by_cases hstart : ch.params.txStart ≤ ch.level
      · exact .inr (.inr ⟨rfl, .inr hstart, by simp [chooseSample, hst, hstart]⟩)
      · exact .inr (.inl ⟨rfl, rfl, Nat.lt_of_not_le hstart, by simp [chooseSample, hst, hstart]⟩)

theorem chooseQueue_nil {ch : Channel} (h : ch.tx.queue = []) : chooseQueue ch = ⟨starve ch, 0, none⟩ := by
  simp [chooseQueue, h]

theorem chooseQueue_cons {ch : Channel} {x : Sample} {rest : List Sample} (h : ch.tx.queue = x :: rest) :
    chooseQueue ch = ⟨(popSample ch rest).channel, x, (popSample ch rest).notice⟩ := by
  simp [chooseQueue, h]

theorem chooseQueue_level_le (ch : Channel) : (chooseQueue ch).channel.level ≤ ch.level := by
  cases hq : ch.tx.queue with
  | nil => rw [chooseQueue_nil hq]; exact le_refl _
  | cons x rest =>
    rw [chooseQueue_cons hq, Channel.level, Channel.level, hq]
    exact Nat.le_succ _

theorem chooseSample_level_le (ch : Channel) (probing : Bool) : (chooseSample ch probing).channel.level ≤ ch.level := by
  obtain ⟨-, h⟩ | ⟨-, -, -, h⟩ | ⟨-, -, h⟩ := chooseSample_cases ch probing <;> rw [h]
  · exact le_refl _
  · exact chooseQueue_level_le ch

/-- A transmit queue gets no longer but by an append that fits (R74). -/
theorem level_step {x y : Channel} (h : ChanStep x y) (hx : x.level ≤ 320) : y.level ≤ 320 := by
  cases h with
  | transmit probing => exact (chooseSample_level_le x probing).trans hx
  | append xs h => simpa [appendSamples, Channel.level] using h
  | receive rx => unfold receiveStage; dsimp only; split <;> exact hx
  | update x r => unfold echoUpdate; split <;> exact hx
  | expire => unfold expiredTraining; dsimp only; split <;> exact hx
  | complete => unfold makeEntry; split <;> exact hx
  | diverge => unfold divergedChannel; dsimp only; split <;> exact hx
  | matched seq erase refs =>
    obtain ⟨_, _, _, _, _, -, -, -, -, h⟩ := matchRef_frame x seq erase refs
    rw [h]
    exact hx
  | taps set taps values start ht => cases set <;> exact hx
  | countDown | extend | counters | apply | filter | strikes | arms | emptied | ended | drainTick | halt | expireRefs
  | setEcho | setExt | delay | eqMode | cursor | checkpoint | restore => exact hx

theorem level_inv : ChanInv fun ch => ch.level ≤ 320 where
  step _ _ := level_step
  guarded x h := by unfold guardIfOpen; split <;> exact h
  shared _ _ _ _ _ h := h
  quiesced _ _ _ := Nat.zero_le _
  blank _ := Nat.zero_le _

theorem queueBounds_act {s t : State} (h : Act s t) (hs : QueueBounds s) : QueueBounds t := by
  obtain ⟨hrequests, hreplies, hdata, hbits, hlevels⟩ := hs
  have hl := act_linkStep h
  exact ⟨hl.requests hrequests, hl.replies hreplies, hl.dataQueue hdata, hl.bits hbits,
    level_inv.act h (fun _ _ _ _ => Nat.zero_le _) hlevels⟩

/-! ### ATTN at the end of a command -/

/-- A command that has run leaves the part as it stood, or with ATTN as the queues ask (R189; log entry 22). -/
def Settled (s t : State) : Prop := t = s ∨ ∃ u : State, t = u.settle

theorem settled_done {s u t : State} (h : u.done = .next t) : Settled s t := .inr ⟨u, (Host.Outcome.next.inj h).symm⟩

theorem settled_unlessHeld {s t : State} {body : StepResult} (hb : body = .next t → Settled s t)
    (h : unlessHeld s body = .next t) : Settled s t := by
  unfold unlessHeld at h
  split at h
  · exact .inl (Host.Outcome.next.inj h).symm
  · exact hb h

/-- A guarded command completes its act or refuses. -/
theorem settled_guarded {s t u : State} {g : Prop} [Decidable g] {r : Refusal}
    (h : unlessHeld s (if g then u.done else .refused r) = .next t) : Settled s t := by
  refine settled_unlessHeld (fun h => ?_) h
  split at h
  · exact settled_done h
  · cases h

theorem settled_takeRequest {s t : State} {mine : Frame → Bool} {kind : Frame → Byte} {act : State → Frame → Answer}
    (h : takeRequest s mine kind act = .next t) : Settled s t := by
  refine settled_unlessHeld (fun h => ?_) h
  split at h
  · cases h
  · split at h
    · split at h
      · exact settled_done h
      · exact .inl (Host.Outcome.next.inj h).symm
    · cases h

theorem exec_settled {i : Instr} {s t : State} (h : exec i s = .next t) : Settled s t := by
  cases i with
  | powerUp | nrstHeldLow => exact settled_done h
  | huntSync | frameEnd | slip | highwayLoss | trainExpiry | drainTimeout => exact settled_guarded h
  | extensionTaken c | leadInEnd c | windowEnd c =>
    refine settled_unlessHeld (fun h => ?_) h
    split at h
    · split at h
      · exact settled_done h
      · cases h
    · cases h
  | chipSelectRise => exact settled_unlessHeld settled_done h
  | badFrame sdi =>
    refine settled_unlessHeld (fun h => ?_) h
    split at h
    · exact settled_done h
    all_goals cases h
  | requestArrival sdi | txBlock sdi | refBlock sdi =>
    refine settled_unlessHeld (fun h => ?_) h
    split at h
    · split at h
      · exact settled_done h
      · cases h
    all_goals cases h
  | inboundByte sdi =>
    refine settled_unlessHeld (fun h => ?_) h
    split at h
    · exact settled_done h
    · exact settled_done h
    all_goals cases h
  | arbiterChoice =>
    refine settled_unlessHeld (fun h => ?_) h
    split at h
    · exact settled_done h
    · cases h
  | outboundFrameComplete n =>
    refine settled_unlessHeld (fun h => ?_) h
    split at h
    · cases h
    · exact settled_done h
  | unknownKind | info | reset | profileWrite | profileRead | profileLock | statsSnapshot | statsRead | bind | quiesce
  | release | echoMode | echoExtend | setDelay | eqMode | tapsRead | tapsWrite | checkpoint | restore | survey
  | surveyCancel | quality => exact settled_takeRequest h

theorem attnFollows_of_settled {s t : State} (h : Settled s t) (hs : AttnFollows s) : AttnFollows t := by
  obtain rfl | ⟨u, rfl⟩ := h
  · exact hs
  · rfl

/-- A bit clock changes the link only at a loss, which settles it. -/
theorem attnFollows_bitClock {s : State} (hs : AttnFollows s) : AttnFollows s.bitClock := by
  unfold State.bitClock
  split
  · split
    · exact hs
    · rfl
  all_goals split <;> exact hs

theorem attnFollows_step {s t : State} (h : step s = .next t) (hs : AttnFollows s) : AttnFollows t := by
  unfold step at h
  split at h
  · unfold idle unlessHeld at h
    split at h
    · exact Host.Outcome.next.inj h ▸ hs
    · exact Host.Outcome.next.inj h ▸ attnFollows_bitClock (s := s.foundHfs [false]) hs
  · exact attnFollows_of_settled (exec_settled h) hs

/-- Settles O55: bounds and receiver are kept by every act, and ATTN follows at the end of every command. -/
theorem linkStateIsKept : Obligations.LinkStateIsKept := fun _ _ h =>
  ⟨step_keep (fun _ _ => queueBounds_act) (fun _ _ hs => hs) h, attnFollows_step h,
    step_keep (P := fun s => ReceiverState s.link) (fun _ _ ha => (act_linkStep ha).receiver) (fun _ _ hs => hs) h⟩

end Sys2Proof.Proofs
end

section
/-! PROOF. Each channel's echo state, span and cursors (R66, R88, R106, R113), kept by every act on a context. -/

namespace Sys2Proof.Proofs
open Sys2Proof.Machine Sys2Proof.Safety Sys2Proof.Laws

/-! ### The echo part alone -/

/-- The clauses of `EchoState` that speak of the echo part under the channel's params. -/
structure EchoPartOk (p : Profile) (e : EchoPart) : Prop where
  near : e.near.length = p.nearTaps
  far : e.far.length = p.farTaps
  delay : e.delay ≤ p.maxDelay
  train : e.mode = .train ↔ 1 ≤ e.trainCount
  trainTop : e.trainCount ≤ 65535
  extension : ∀ n, e.extension = some n → e.mode = .train ∧ 1 ≤ n ∧ n ≤ 65535
  thenMode : e.thenMode ≠ .train
  checkpoint : ∀ k, e.checkpoint = some k →
    k.near.length = p.nearTaps ∧ k.far.length = p.farTaps ∧ k.delay ≤ p.maxDelay
  strikes : e.strikes ≤ 2
  guard : e.guard ≤ 64

theorem echoPartOk_of {ch : Channel} (h : EchoState ch) : EchoPartOk ch.params ch.echo :=
  ⟨h.near, h.far, h.delay, h.train, h.trainTop, h.extension, h.thenMode, h.checkpoint, h.strikes, h.guard⟩

section
variable {p : Profile} {e : EchoPart}

/-- New taps of the old lengths and a D within max_delay (R5, R66). -/
theorem echoPartOk_retap (h : EchoPartOk p e) {near far : List Sample} {delay : Nat} (hn : near.length = p.nearTaps)
    (hf : far.length = p.farTaps) (hd : delay ≤ p.maxDelay) :
    EchoPartOk p { e with near := near, far := far, delay := delay } :=
  { h with near := hn, far := hf, delay := hd }

/-- A mode outside TRAIN, with no train count and no extension (R92, R96, R104). -/
theorem echoPartOk_untrained (h : EchoPartOk p e) {mode : EchoMode} (hm : mode ≠ .train) :
    EchoPartOk p { e with mode := mode, trainCount := 0, extension := none } :=
  { h with
    train := ⟨fun ht => absurd ht hm, nofun⟩
    trainTop := Nat.zero_le _
    extension := nofun }

theorem echoPartOk_guard (h : EchoPartOk p e) {n : Nat} (hn : n ≤ 64) : EchoPartOk p { e with guard := n } :=
  { h with guard := hn }

theorem echoPartOk_strikes (h : EchoPartOk p e) {n : Nat} (hn : n ≤ 2) : EchoPartOk p { e with strikes := n } :=
  { h with strikes := hn }

/-- A checkpoint of the taps and D as they stand (R106). -/
theorem echoPartOk_checkpoint (h : EchoPartOk p e) :
    EchoPartOk p { e with checkpoint := some ⟨e.near, e.far, e.delay⟩ } :=
  { h with checkpoint := fun _ hk => Option.some.inj hk ▸ ⟨h.near, h.far, h.delay⟩ }

/-- A count that goes on in TRAIN (R95, R97). -/
theorem echoPartOk_count (h : EchoPartOk p e) (hm : e.mode = .train) {n : Nat} {x : Option Nat} (hn : 1 ≤ n)
    (ht : n ≤ 65535) (hx : ∀ k, x = some k → 1 ≤ k ∧ k ≤ 65535) :
    EchoPartOk p { e with trainCount := n, extension := x } :=
  { h with
    train := ⟨fun _ => hn, fun _ => hm⟩
    trainTop := ht
    extension := fun k hk => ⟨hm, hx k hk⟩ }

end

/-! ### The cursors -/

/-- The length a tap set has under the params, where it is there (R112). -/
def nominalLength (p : Profile) : TapSet → Nat
  | .near | .ckNear => p.nearTaps
  | .far | .ckFar => p.farTaps
  | .eq => p.eqTaps

theorem length_of_tapsOf {ch : Channel} (h : EchoPartOk ch.params ch.echo) (heq : ch.eq.taps.length = ch.params.eqTaps)
    {set : TapSet} {taps : List Sample} (ht : tapsOf ch set = some taps) :
    taps.length = nominalLength ch.params set := by
  cases set with
  | near => exact Option.some.inj ht ▸ h.near
  | far => exact Option.some.inj ht ▸ h.far
  | eq => exact Option.some.inj ht ▸ heq
  | ckNear =>
    obtain ⟨k, hk, rfl⟩ := Option.map_eq_some_iff.1 ht
    exact (h.checkpoint k hk).1
  | ckFar =>
    obtain ⟨k, hk, rfl⟩ := Option.map_eq_some_iff.1 ht
    exact (h.checkpoint k hk).2.1

/-- A set is there unless it is one of an absent checkpoint (R112). -/
theorem tapsOf_isSome {x y : Channel} (h : x.echo.checkpoint.isSome → y.echo.checkpoint.isSome) {set : TapSet}
    (hx : (tapsOf x set).isSome) : (tapsOf y set).isSome := by
  cases set with
  | near | far | eq => rfl
  | ckNear | ckFar => simpa [tapsOf] using h (by simpa [tapsOf] using hx)

/-- Each cursor of `y` is at 0, or where that of `x` was, when the sets of `x` are there in `y` with their lengths. -/
theorem cursors_keep {x y : Channel} (hx : EchoState x) (hparams : y.params = x.params)
    (hcur : ∀ set, cursorOf y set = 0 ∨ cursorOf y set = cursorOf x set) (heq : y.eq.taps.length = x.eq.taps.length)
    (hck : x.echo.checkpoint.isSome → y.echo.checkpoint.isSome) (he : EchoPartOk x.params y.echo) (set : TapSet) :
    cursorOf y set = 0 ∨ ∃ taps, tapsOf y set = some taps ∧ cursorOf y set < taps.length := by
  obtain hzero | hsame := hcur set
  · exact .inl hzero
  rw [hsame]
  refine (hx.cursors set).imp id fun ⟨taps, ht, hlt⟩ => ?_
  obtain ⟨taps', ht'⟩ := Option.isSome_iff_exists.1 (tapsOf_isSome (y := y) hck (Option.isSome_iff_exists.2 ⟨taps, ht⟩))
  refine ⟨taps', ht', ?_⟩
  rwa [length_of_tapsOf (hparams ▸ he) (by rw [heq, hparams, hx.eqTaps]) ht', hparams,
    ← length_of_tapsOf (echoPartOk_of hx) hx.eqTaps ht]

/-! ### The whole context -/

/-- A context with a new echo part is as R88 says when the part is, and the sets that were there still are. -/
theorem echoState_of {x y : Channel} (hx : EchoState x) (hparams : y.params = x.params) (hpages : y.pages = x.pages)
    (hcur : y.cursors = x.cursors) (heq : y.eq.taps.length = x.eq.taps.length)
    (hck : x.echo.checkpoint.isSome → y.echo.checkpoint.isSome) (he : EchoPartOk x.params y.echo) : EchoState y := by
  have hset : ∀ set, cursorOf y set = cursorOf x set := fun set => by cases set <;> simp only [cursorOf, hcur]
  have hc := cursors_keep hx hparams (fun set => .inr (hset set)) heq hck he
  rw [← hparams] at he
  exact ⟨he.near, he.far, by rw [heq, hparams, hx.eqTaps], he.delay, he.train, he.trainTop, he.extension, he.thenMode,
    he.checkpoint, he.strikes, he.guard, by rw [hparams, hpages]; exact hx.span, hc⟩

/-- A context whose echo part, eq taps, params, pages and cursors stand. -/
theorem echoState_congr {x y : Channel} (hx : EchoState x) (he : y.echo = x.echo)
    (heq : y.eq.taps.length = x.eq.taps.length) (hparams : y.params = x.params) (hpages : y.pages = x.pages)
    (hcur : y.cursors = x.cursors) : EchoState y :=
  echoState_of hx hparams hpages hcur heq (by rw [he]; exact id) (he ▸ echoPartOk_of hx)

theorem overwrite_length_eq (taps : List Sample) (start : Nat) (values : List Sample) :
    (overwrite taps start values).length = taps.length := by
  simp only [overwrite, countUsed, List.length_append, List.length_take, List.length_drop]
  omega

theorem chooseSample_eqTaps (ch : Channel) (probing : Bool) : (chooseSample ch probing).channel.eq.taps = ch.eq.taps := by
  obtain ⟨-, h⟩ | ⟨-, -, -, h⟩ | ⟨-, -, h⟩ := chooseSample_cases ch probing <;> rw [h]
  · rfl
  · cases hq : ch.tx.queue with
    | nil => rw [chooseQueue_nil hq]; rfl
    | cons => rw [chooseQueue_cons hq]; rfl

theorem echoState_expired {x : Channel} (hx : EchoState x) (he : x.echo.extension = none) :
    EchoState (expiredTraining x) := by
  have h := echoPartOk_untrained (echoPartOk_of hx) hx.thenMode
  rw [← he] at h
  unfold expiredTraining
  dsimp only
  split
  · exact echoState_of hx rfl rfl rfl rfl (fun _ => rfl) (echoPartOk_checkpoint h)
  · exact echoState_of hx rfl rfl rfl rfl id h

theorem echoState_diverged {x : Channel} (hx : EchoState x) : EchoState (divergedChannel x) := by
  have hp := echoPartOk_of hx
  unfold divergedChannel
  dsimp only
  split
  · next k hk =>
    obtain ⟨hn, hf, hd⟩ := hx.checkpoint k hk
    exact echoState_of hx rfl rfl rfl rfl id
      (echoPartOk_strikes (echoPartOk_untrained (mode := .hold) (echoPartOk_retap hp hn hf hd) nofun) (Nat.zero_le _))
  · exact echoState_of hx rfl rfl rfl rfl id
      (echoPartOk_strikes (echoPartOk_untrained (mode := .hold) (echoPartOk_retap (near := List.replicate x.echo.near.length 0)
        (far := List.replicate x.echo.far.length 0) hp (by simp [hx.near]) (by simp [hx.far]) hx.delay) nofun)
        (Nat.zero_le _))

/-- A cursor moved lies in its set, and the other cursors stand (R113). -/
theorem echoState_moveCursor {x : Channel} (hx : EchoState x) {set : TapSet} {taps : List Sample}
    (ht : tapsOf x set = some taps) {start : Nat} (hs : start < taps.length) (count : Nat) :
    EchoState (moveCursor x set taps.length start count) := by
  refine { hx with cursors := fun other => ?_ }
  have htaps : tapsOf (moveCursor x set taps.length start count) other = tapsOf x other := by cases other <;> rfl
  by_cases ho : other = set
  · subst ho
    refine .inr ⟨taps, htaps.trans ht, ?_⟩
    have hlt := Nat.mod_lt (start + countUsed taps.length start count) (Nat.zero_lt_of_lt hs)
    cases other <;> exact hlt
  · have hcur : cursorOf (moveCursor x set taps.length start count) other = cursorOf x other := by
      cases set <;> cases other <;> first | rfl | exact absurd rfl ho
    rw [htaps, hcur]
    exact hx.cursors other

theorem echoState_setTaps {x : Channel} (hx : EchoState x) {set : TapSet} {taps : List Sample}
    (ht : tapsOf x set = some taps) (start : Nat) (values : List Sample) :
    EchoState (setTaps x set (overwrite taps start values)) := by
  have hlen := (overwrite_length_eq taps start values).trans (length_of_tapsOf (echoPartOk_of hx) hx.eqTaps ht)
  have hp := echoPartOk_of hx
  cases set with
  | near => exact echoState_of hx rfl rfl rfl rfl id (echoPartOk_retap hp hlen hp.far hp.delay)
  | far => exact echoState_of hx rfl rfl rfl rfl id (echoPartOk_retap hp hp.near hlen hp.delay)
  | eq => exact echoState_of hx rfl rfl rfl (hlen.trans hx.eqTaps.symm) id hp
  | ckNear | ckFar => exact hx

theorem echoState_setEcho {x : Channel} (hx : EchoState x) {mode thenMode : EchoMode} {count : Nat}
    (h : mode = .train ↔ 1 ≤ count) (hc : count ≤ 65535) (ht : thenMode ≠ .train ∨ thenMode = x.echo.thenMode) :
    EchoState (setEchoMode x mode count thenMode) := by
  refine echoState_of hx rfl rfl rfl rfl id
    { echoPartOk_of hx with
      train := h
      trainTop := hc
      extension := nofun
      thenMode := ?_
      strikes := Nat.zero_le _ }
  obtain ht | rfl := ht
  · exact ht
  · exact hx.thenMode

theorem echoState_step {x y : Channel} (h : ChanStep x y) (hx : EchoState x) : EchoState y := by
  have hp := echoPartOk_of hx
  cases h with
  | transmit probing =>
    obtain ⟨-, -, hparams, hpages, -, hecho, -, hcur, -⟩ := chooseSample_frame x probing
    exact echoState_congr hx hecho (by rw [chooseSample_eqTaps]) hparams hpages hcur
  | receive rx =>
    unfold receiveStage
    dsimp only
    split
    · exact echoState_of hx rfl rfl rfl rfl id (echoPartOk_guard hp (le_refl 64))
    · exact echoState_congr hx rfl rfl rfl rfl rfl
  | update u r =>
    unfold echoUpdate
    split
    · exact echoState_of hx rfl rfl rfl rfl id
        (echoPartOk_retap hp (by simp [hx.near]) (by simp [hx.far]) hx.delay)
    · exact hx
  | countDown hm hne =>
    have htop := hx.trainTop
    exact echoState_of hx rfl rfl rfl rfl id
      (echoPartOk_count hp hm (by omega) (by omega) fun k hk => (hx.extension k hk).2)
  | extend n hm he =>
    obtain ⟨-, hn, htop⟩ := hx.extension n he
    exact echoState_of hx rfl rfl rfl rfl id (echoPartOk_count hp hm hn htop nofun)
  | setExt n hm hn =>
    exact echoState_of hx rfl rfl rfl rfl id
      (echoPartOk_count hp hm (hx.train.1 hm) hx.trainTop fun k hk => Option.some.inj hk ▸ hn)
  | expire hm he => exact echoState_expired hx he
  | apply lag =>
    exact echoState_of hx rfl rfl rfl rfl id
      (echoPartOk_retap hp hp.near (by simp [hx.far]) (Nat.min_le_left _ _))
  | delay d zero =>
    refine echoState_of hx rfl rfl rfl rfl id (echoPartOk_retap hp hp.near ?_ (Nat.min_le_right _ _))
    split
    · rw [List.length_replicate, hx.far]
    · exact hx.far
  | complete k _ =>
    unfold makeEntry
    split <;> exact echoState_congr hx rfl rfl rfl rfl rfl
  | diverge => exact echoState_diverged hx
  | strikes n hn => exact echoState_of hx rfl rfl rfl rfl id (echoPartOk_strikes hp hn)
  | ended =>
    have hg := hx.guard
    exact echoState_of hx rfl rfl rfl rfl id (echoPartOk_guard hp (by omega))
  | matched seq erase refs =>
    obtain ⟨taps, _, _, _, _, hlen, -, -, -, heq⟩ := matchRef_frame x seq erase refs
    rw [heq]
    exact echoState_congr hx rfl hlen rfl rfl rfl
  | setEcho mode count thenMode hm hc ht => exact echoState_setEcho hx hm hc ht
  | cursor set taps start count ht hs => exact echoState_moveCursor hx ht hs count
  | taps set taps values start ht => exact echoState_setTaps hx ht start values
  | checkpoint => exact echoState_of hx rfl rfl rfl rfl (fun _ => rfl) (echoPartOk_checkpoint hp)
  | restore k hk =>
    obtain ⟨hn, hf, hd⟩ := hx.checkpoint k hk
    exact echoState_of hx rfl rfl rfl rfl id (echoPartOk_retap hp hn hf hd)
  | append | counters | filter | arms | emptied | drainTick | halt | expireRefs | eqMode =>
    exact echoState_congr hx rfl rfl rfl rfl rfl

/-! ### BIND, and the statement -/

/-- BIND takes pages enough for the deepest lag (R61, R66). -/
theorem echoState_boundChannel (sl : SlotId) {p : Profile} {pages : List Nat} (h : pages.length = p.pagesNeeded) :
    EchoState (boundChannel sl p pages) where
  near := List.length_replicate
  far := List.length_replicate
  eqTaps := by simp [boundChannel, passThroughTaps]
  delay := Nat.zero_le _
  train := ⟨nofun, nofun⟩
  trainTop := Nat.zero_le _
  extension := nofun
  thenMode := nofun
  checkpoint := nofun
  strikes := Nat.zero_le _
  guard := Nat.zero_le _
  span := by
    change _ ≤ (pages.length - 1) * 64
    rw [h, Profile.pagesNeeded]
    change max p.nearTaps (p.maxDelay + p.farTaps) ≤ _
    omega
  cursors set := .inl (by cases set <;> rfl)

theorem echoState_inv : ChanInv fun ch => ch.state ≠ .free → EchoState ch where
  step x y h hx hy := echoState_step h (hx fun hfree => hy (h.frame.1.2 hfree))
  guarded x hx hy := by
    have hx' := hx fun hfree => hy ((sameHolding_guarded x).free.2 hfree)
    unfold guardIfOpen
    split
    · exact echoState_of hx' rfl rfl rfl rfl id (echoPartOk_guard (echoPartOk_of hx') (le_refl 64))
    · exact hx'
  shared x _ _ _ _ hx hy := echoState_congr (hx hy) rfl rfl rfl rfl rfl
  quiesced x ho hx _ := echoState_congr (hx (by simp [ho])) rfl rfl rfl rfl rfl
  blank _ h := absurd rfl h

/-- Settles O56: every act keeps a context's echo state, and BIND begins one that is as R88 says. -/
theorem echoStatesAreKept : Obligations.EchoStatesAreKept := fun _ _ =>
  step_keep (fun _ _ h => echoState_inv.act h fun sl _ _ hp _ => echoState_boundChannel sl hp) fun _ _ hs => hs

end Sys2Proof.Proofs
end

section
/-! SUPPORT. What one channel's work leaves alone (R43): the frame of an act on one channel, the frame of one that may end
its survey as well, and the stages of a turn, each with the kinds of notice it may raise. -/

namespace Sys2Proof.Proofs
open Sys2Proof.Machine Sys2Proof.Safety Sys2Proof.Laws

/-! ### Notices that are not touched -/

theorem othersStand_refl (touched : Notice → Bool) (s : State) : OthersStand touched s s := rfl

theorem othersStand_trans {touched : Notice → Bool} {s t u : State} (h : OthersStand touched s t)
    (k : OthersStand touched t u) : OthersStand touched s u := k.trans h

/-- Touching more leaves the fewer others standing. -/
theorem othersStand_mono {p q : Notice → Bool} {s t : State} (hpq : ∀ n, p n = true → q n = true)
    (h : OthersStand p s t) : OthersStand q s t := by
  have hfilter : ∀ l : List Notice, l.filter (fun n => !q n) = (l.filter fun n => !p n).filter fun n => !q n := by
    intro l
    rw [List.filter_filter]
    refine List.filter_congr fun n _ => ?_
    have := hpq n
    cases hp : p n <;> simp_all
  unfold OthersStand at *
  rw [hfilter t.link.notices, h, ← hfilter]

/-- A notice of one of some kinds, of one channel. -/
def ofKinds (c : ChanId) (kinds : List Byte) (n : Notice) : Bool :=
  n.channel == chanByte c && kinds.contains (noticeKind n.body)

theorem ofKinds_iff {c : ChanId} {kinds : List Byte} {n : Notice} :
    ofKinds c kinds n = true ↔ n.channel = chanByte c ∧ noticeKind n.body ∈ kinds := by
  simp [ofKinds]

theorem ofKinds_mono {c : ChanId} {kinds more : List Byte} (h : kinds ⊆ more) (n : Notice)
    (hn : ofKinds c kinds n = true) : ofKinds c more n = true :=
  ofKinds_iff.2 ((ofKinds_iff.1 hn).imp id fun hk => h hk)

theorem othersStand_raiseCh (s : State) (c : ChanId) (body : NoticeBody) :
    OthersStand (ofKinds c [noticeKind body]) s (s.raiseCh c body) :=
  placeNotice_others (fun _ hc hk => ofKinds_iff.2 ⟨hc, by rw [hk]; exact List.mem_singleton_self _⟩) _

/-! ### The two frames -/

/-- Two contexts in one state, with the same slot, params and pages. -/
structure SamePlace (x y : Channel) : Prop where
  state : y.state = x.state
  slot : y.slot = x.slot
  params : y.params = x.params
  pages : y.pages = x.pages

theorem SamePlace.refl (x : Channel) : SamePlace x x := ⟨rfl, rfl, rfl, rfl⟩

theorem SamePlace.trans {x y z : Channel} (h : SamePlace x y) (k : SamePlace y z) : SamePlace x z :=
  ⟨k.state.trans h.state, k.slot.trans h.slot, k.params.trans h.params, k.pages.trans h.pages⟩

/-- What an act on one channel's context leaves alone: every other channel, and all of the part but the channels, the
outbound data queue and notices of this channel of the given kinds. -/
structure Own (kinds : List Byte) (c : ChanId) (s t : State) : Prop where
  rest : t = { s with
    channels := t.channels
    link := { s.link with notices := t.link.notices, dataQueue := t.link.dataQueue } }
  others : ∀ d : ChanId, d ≠ c → t.ch d = s.ch d
  place : SamePlace (s.ch c) (t.ch c)
  notices : OthersStand (ofKinds c kinds) s t

/-- What a survey's grant may change of another channel's context (R147). -/
def GrantedTo (x y : Channel) : Prop := ∃ sv p, y = { x with survey := sv, tx := { x.tx with probe := p } }

/-- What a channel's work leaves alone, when it may also end the channel's survey and pass the correlator on: of the other
channels all but what a grant sets, and of the part all that `Own` names but the survey unit. -/
structure Local (kinds : List Byte) (c : ChanId) (s t : State) : Prop where
  rest : t = { s with
    dsu := t.dsu
    channels := t.channels
    link := { s.link with notices := t.link.notices, dataQueue := t.link.dataQueue } }
  others : ∀ d : ChanId, d ≠ c → GrantedTo (s.ch d) (t.ch d)
  place : SamePlace (s.ch c) (t.ch c)
  notices : OthersStand (ofKinds c kinds) s t

theorem GrantedTo.refl (x : Channel) : GrantedTo x x := ⟨x.survey, x.tx.probe, rfl⟩

theorem GrantedTo.trans {x y z : Channel} (h : GrantedTo x y) (k : GrantedTo y z) : GrantedTo x z := by
  obtain ⟨_, _, rfl⟩ := h
  obtain ⟨a, p, rfl⟩ := k
  exact ⟨a, p, rfl⟩

theorem GrantedTo.place {x y : Channel} (h : GrantedTo x y) : SamePlace x y := by
  obtain ⟨_, _, rfl⟩ := h
  exact ⟨rfl, rfl, rfl, rfl⟩

section
variable {kinds more : List Byte} {c : ChanId} {s t u : State}

theorem Own.refl (kinds : List Byte) (c : ChanId) (s : State) : Own kinds c s s :=
  ⟨rfl, fun _ _ => rfl, .refl _, othersStand_refl _ _⟩

theorem Own.mono (hk : kinds ⊆ more) (h : Own kinds c s t) : Own more c s t :=
  ⟨h.rest, h.others, h.place, othersStand_mono (ofKinds_mono hk) h.notices⟩

theorem Own.trans (h : Own kinds c s t) (k : Own kinds c t u) : Own kinds c s u :=
  ⟨by rw [k.rest, h.rest], fun d hd => (k.others d hd).trans (h.others d hd), h.place.trans k.place,
    othersStand_trans h.notices k.notices⟩

theorem Own.local (h : Own kinds c s t) : Local kinds c s t :=
  ⟨by rw [h.rest], fun d hd => h.others d hd ▸ .refl _, h.place, h.notices⟩

theorem Local.mono (hk : kinds ⊆ more) (h : Local kinds c s t) : Local more c s t :=
  ⟨h.rest, h.others, h.place, othersStand_mono (ofKinds_mono hk) h.notices⟩

theorem Local.trans (h : Local kinds c s t) (k : Local kinds c t u) : Local kinds c s u :=
  ⟨by rw [k.rest, h.rest], fun d hd => (h.others d hd).trans (k.others d hd), h.place.trans k.place,
    othersStand_trans h.notices k.notices⟩

theorem Own.dsu (h : Own kinds c s t) : t.dsu = s.dsu := by rw [h.rest]

theorem Own.highway (h : Own kinds c s t) : t.highway = s.highway := by rw [h.rest]

theorem Own.pageMem (h : Own kinds c s t) : t.pageMem = s.pageMem := by rw [h.rest]

theorem Local.highway (h : Local kinds c s t) : t.highway = s.highway := by rw [h.rest]

theorem Local.pageMem (h : Local kinds c s t) : t.pageMem = s.pageMem := by rw [h.rest]

end

/-! ### Single acts -/

theorem own_setCh (kinds : List Byte) {s : State} {c : ChanId} {x : Channel} (h : SamePlace (s.ch c) x) :
    Own kinds c s (s.setCh c x) :=
  ⟨rfl, fun d hd => by simp [hd], by rwa [State.setCh_ch_same], othersStand_refl _ _⟩

theorem own_modCh (kinds : List Byte) {s : State} {c : ChanId} {f : Channel → Channel}
    (h : SamePlace (s.ch c) (f (s.ch c))) : Own kinds c s (s.modCh c f) := own_setCh kinds h

theorem own_count (kinds : List Byte) (s : State) (c : ChanId) (f : ChanCounters → ChanCounters) :
    Own kinds c s (s.count c f) := own_modCh kinds ⟨rfl, rfl, rfl, rfl⟩

theorem own_raiseCh (s : State) (c : ChanId) (body : NoticeBody) : Own [noticeKind body] c s (s.raiseCh c body) :=
  ⟨rfl, fun _ _ => rfl, .refl _, othersStand_raiseCh s c body⟩

/-! ### The stages of a turn -/

theorem chooseSample_place (ch : Channel) (probing : Bool) : SamePlace ch (chooseSample ch probing).channel := by
  obtain ⟨hstate, hslot, hparams, hpages, -⟩ := chooseSample_frame ch probing
  exact ⟨hstate, hslot, hparams, hpages⟩

theorem chooseSample_notice {ch : Channel} {probing : Bool} {body : NoticeBody}
    (h : (chooseSample ch probing).notice = some body) : noticeKind body = 0x40 := by
  obtain ⟨-, hc⟩ | ⟨-, -, -, hc⟩ | ⟨-, -, hc⟩ := chooseSample_cases ch probing <;> rw [hc] at h
  · cases h
  · cases h
  · cases hq : ch.tx.queue with
    | nil => rw [chooseQueue_nil hq] at h; cases h
    | cons x rest =>
      rw [chooseQueue_cons hq] at h
      simp only [popSample] at h
      split at h
      · cases h; rfl
      · cases h

/-- The sample chosen, with TX_LOW raised where it is due, before history and slot are written (R44). -/
def chosen (s : State) (c : ChanId) : State :=
  (s.setCh c (chooseSample (s.ch c) (s.dsu.probing c)).channel).raiseOpt c
    (chooseSample (s.ch c) (s.dsu.probing c)).notice

theorem own_chosen (s : State) (c : ChanId) : Own [0x40] c s (chosen s c) := by
  have h := own_setCh [0x40] (chooseSample_place (s.ch c) (s.dsu.probing c))
  unfold chosen
  cases hn : (chooseSample (s.ch c) (s.dsu.probing c)).notice with
  | none => exact h
  | some body => exact h.trans (chooseSample_notice hn ▸ own_raiseCh _ c body)

/-- The transmit sample of a channel's turn (R76). -/
def sentSample (s : State) (c : ChanId) : Sample := (chooseSample (s.ch c) (s.dsu.probing c)).sample

theorem transmitStage_eq (s : State) (c : ChanId) (sl : SlotId) :
    transmitStage s c sl = { chosen s c with
      pageMem := historyWrite s.pageMem (s.ch c).pages (s.ch c).writeIndex (sentSample s c)
      highway := { s.highway with drive := s.highway.drive.set sl.val (some (sentSample s c)) } } := by
  have hown := own_chosen s c
  change State.setDrive { chosen s c with pageMem := historyWrite (chosen s c).pageMem _ _ _ } sl _ = _
  rw [hown.pageMem, State.setDrive, hown.highway]
  rfl

theorem receiveStage_place (ch : Channel) (rx : Option Sample) : SamePlace ch (receiveStage ch rx) := by
  unfold receiveStage
  dsimp only
  split <;> exact ⟨rfl, rfl, rfl, rfl⟩

theorem echoUpdate_place (ch : Channel) (x : Nat → Sample) (r : Sample) : SamePlace ch (echoUpdate ch x r) := by
  unfold echoUpdate
  split <;> exact ⟨rfl, rfl, rfl, rfl⟩

theorem expiredTraining_place (ch : Channel) : SamePlace ch (expiredTraining ch) := by
  unfold expiredTraining
  dsimp only
  split <;> exact ⟨rfl, rfl, rfl, rfl⟩

theorem own_expireTraining (s : State) (c : ChanId) : Own [0x42] c s (s.expireTraining c) := by
  unfold State.expireTraining
  have h : Own [0x42] c s (s.modCh c expiredTraining) := own_modCh _ (expiredTraining_place _)
  exact (h.trans (own_raiseCh _ c (.trainDone _ _))).trans (own_count _ _ _ _)

theorem own_trainStep (s : State) (c : ChanId) : Own [0x42] c s (s.trainStep c) := by
  have h : Own [0x42] c s (s.modCh c countTraining) := own_modCh _ ⟨rfl, rfl, rfl, rfl⟩
  unfold State.trainStep State.trainingAtZero
  dsimp only
  split
  · split
    · exact h.trans (own_expireTraining _ c)
    · exact h.trans (own_modCh _ ⟨rfl, rfl, rfl, rfl⟩)
  · exact h

theorem own_echoStage (s : State) (c : ChanId) (x : Nat → Sample) (r : Sample) : Own [0x42] c s (echoStage s c x r) := by
  have h : Own [0x42] c s (s.modCh c fun ch => echoUpdate ch x r) := own_modCh _ (echoUpdate_place _ x r)
  unfold echoStage
  dsimp only
  split
  · exact h.trans (own_trainStep _ c)
  · exact h

/-- The survey unit's own changes: its correlators and queue, and what a grant sets of a context. -/
theorem local_granted (kinds : List Byte) (c : ChanId) {s t : State} (h : Granted s t) : Local kinds c s t := by
  have hg : ∀ d : ChanId, GrantedTo (s.ch d) (t.ch d) := h.chans
  refine ⟨?_, fun d _ => hg d, (hg c).place, ?_⟩
  · rw [h.rest]
  · rw [OthersStand, h.link]

theorem own_recordSurvey (s : State) (c : ChanId) (r : SurveyRecord) : Own [0x44] c s (s.recordSurvey c r) :=
  (own_modCh [0x44] ⟨rfl, rfl, rfl, rfl⟩).trans (own_raiseCh _ c (.surveyDone r))

theorem local_endRunning (s : State) (c : ChanId) (i : Fin 4) (r : SurveyRecord) :
    Local [0x44] c s (s.endRunning c i r) :=
  (own_recordSurvey s c r).local.trans (local_granted _ c ((Granted.unit _ i none).trans (granted_runArbiter _)))

/-- The context after a window whose result is applied, or not (R151). -/
def windowApplied (ch : Channel) (k : Correlator) : Channel :=
  match (windowRecord ch k).appliedDelay, (windowRecord ch k).figures with
  | some _, some f => applyResult ch f.peakLag
  | _, _ => ch

theorem windowApplied_place (ch : Channel) (k : Correlator) : SamePlace ch (windowApplied ch k) := by
  unfold windowApplied
  split <;> exact ⟨rfl, rfl, rfl, rfl⟩

theorem endWindow_eq (s : State) (c : ChanId) (i : Fin 4) (k : Correlator) :
    s.endWindow c i k
      = (s.setCh c (windowApplied (s.ch c) k)).endRunning c i (windowRecord (s.ch c) k) := rfl

theorem local_endWindow (s : State) (c : ChanId) (i : Fin 4) (k : Correlator) :
    Local [0x44] c s (s.endWindow c i k) := by
  rw [endWindow_eq]
  exact (own_setCh [0x44] (windowApplied_place _ k)).local.trans (local_endRunning _ c i _)

theorem local_setUnit (kinds : List Byte) (c : ChanId) (s : State) (i : Fin 4) (k : Option Correlator) :
    Local kinds c s (s.setUnit i k) := local_granted kinds c (.unit s i k)

theorem local_surveyStage (s : State) (c : ChanId) (x : Nat → Sample) (r : Sample) (slipped : Bool) :
    Local [0x44] c s (surveyStage s c x r slipped) := by
  unfold surveyStage
  split
  · exact (Own.refl _ c s).local
  · split
    · exact (Own.refl _ c s).local
    · unfold surveyTurn
      split
      · exact local_setUnit _ c s _ _
      · split
        · dsimp only
          split
          · exact local_setUnit _ c s _ _
          · exact local_endRunning s c _ _
        · dsimp only
          split
          · exact local_endWindow s c _ _
          · exact local_setUnit _ c s _ _

/-! ### The block boundary -/

theorem completedChannel_place (ch : Channel) (dropped : Bool) : SamePlace ch (completedChannel ch dropped) := by
  unfold completedChannel makeEntry
  dsimp only
  split <;> split <;> exact ⟨rfl, rfl, rfl, rfl⟩

theorem own_completeBlock (kinds : List Byte) (s : State) (c : ChanId) : Own kinds c s (completeBlock s c) := by
  have h : ∀ dropped, Own kinds c s (s.modCh c fun ch => completedChannel ch dropped) := fun dropped =>
    own_modCh kinds (completedChannel_place _ dropped)
  rw [completeBlock_eq]
  split
  · exact (h false).trans ⟨rfl, fun _ _ => rfl, .refl _, othersStand_refl _ _⟩
  · exact h true

theorem divergedChannel_place (ch : Channel) : SamePlace ch (divergedChannel ch) := by
  unfold divergedChannel
  dsimp only
  split <;> exact ⟨rfl, rfl, rfl, rfl⟩

theorem own_diverge (s : State) (c : ChanId) : Own [0x43] c s (s.diverge c) := by
  unfold State.diverge
  have h : Own [0x43] c s (s.modCh c divergedChannel) := own_modCh _ (divergedChannel_place _)
  exact (h.trans (own_raiseCh _ c (.diverged _ _))).trans (own_count _ _ _ _)

theorem own_divergenceCheck (s : State) (c : ChanId) : Own [0x43] c s (divergenceCheck s c) := by
  have h : ∀ n, Own [0x43] c s (if 3 ≤ n then s.diverge c else s.modCh c fun ch => setStrikes ch n) := by
    intro n
    split
    · exact own_diverge s c
    · exact own_modCh _ ⟨rfl, rfl, rfl, rfl⟩
  exact h _

theorem own_qualityCheck (s : State) (c : ChanId) : Own [0x46] c s (qualityCheck s c) := by
  unfold qualityCheck
  dsimp only
  split
  · exact (own_modCh [0x46] ⟨rfl, rfl, rfl, rfl⟩).trans (own_raiseCh _ c (.quality _ _ _ _))
  · exact own_modCh [0x46] ⟨rfl, rfl, rfl, rfl⟩

theorem emptyBlock_place (ch : Channel) : SamePlace ch (emptyBlock ch) := ⟨rfl, rfl, rfl, rfl⟩

theorem own_boundary (s : State) (c : ChanId) : Own [0x43, 0x46] c s (boundary s c) := by
  have h1 := own_completeBlock [0x43, 0x46] s c
  have h2 := h1.trans ((own_divergenceCheck _ c).mono (by simp))
  have h3 := h2.trans ((own_qualityCheck _ c).mono (by simp))
  exact h3.trans (own_modCh _ (emptyBlock_place _))

theorem own_boundaryIfFull (s : State) (c : ChanId) : Own [0x43, 0x46] c s (boundaryIfFull s c) := by
  unfold boundaryIfFull
  split
  · exact own_boundary s c
  · exact .refl _ c s

/-! ### The turn -/

/-- The kinds of notice a turn may raise (R208). -/
def turnKinds : List Byte := [0x40, 0x42, 0x43, 0x44, 0x46]

theorem filtered_place (ch : Channel) (rx r : Sample) : SamePlace ch (eqStage (powerStage ch rx r) r) :=
  ⟨rfl, rfl, rfl, rfl⟩

theorem endTurn_place (ch : Channel) : SamePlace ch (endTurn ch) := ⟨rfl, rfl, rfl, rfl⟩

theorem local_filterStages (s : State) (c : ChanId) (rx : Sample) (slipped : Bool) :
    Local [0x42, 0x43, 0x44, 0x46] c s (filterStages s c rx slipped) := by
  have h : ∀ (x : Nat → Sample) (r : Sample), Local [0x42, 0x43, 0x44, 0x46] c s
      ((boundaryIfFull ((surveyStage (echoStage s c x r) c x r slipped).modCh c
        fun ch => eqStage (powerStage ch rx r) r) c).modCh c endTurn) := by
    intro x r
    have h4 : Local [0x42, 0x43, 0x44, 0x46] c s (echoStage s c x r) := ((own_echoStage s c x r).mono (by simp)).local
    have h5 := h4.trans ((local_surveyStage _ c x r slipped).mono (by simp))
    have h7 := h5.trans (own_modCh (f := fun ch => eqStage (powerStage ch rx r) r) _ (filtered_place _ rx r)).local
    have h8 := h7.trans ((own_boundaryIfFull _ c).mono (by simp)).local
    exact h8.trans (own_modCh _ (endTurn_place _)).local
  exact h _ _

/-- After its sample is chosen and written, a turn touches its channel, its channel's notices, the data queue, and, where it
ends the survey, the survey unit and what a grant sets (R43). -/
theorem local_turn (s : State) (c : ChanId) (sl : SlotId) (rx : Option Sample) :
    Local [0x42, 0x43, 0x44, 0x46] c (transmitStage s c sl) (turn s c sl rx) :=
  (own_modCh _ (receiveStage_place _ rx)).local.trans (local_filterStages _ c _ _)

theorem transmitStage_ch (s : State) (c d : ChanId) (sl : SlotId) : (transmitStage s c sl).ch d = (chosen s c).ch d := by
  rw [transmitStage_eq]
  rfl

theorem transmitStage_ch_same (s : State) (c : ChanId) (sl : SlotId) :
    (transmitStage s c sl).ch c = (chooseSample (s.ch c) (s.dsu.probing c)).channel := by
  rw [transmitStage_ch, chosen]
  cases (chooseSample (s.ch c) (s.dsu.probing c)).notice <;> exact State.setCh_ch_same _ _ _

/-- A turn changes of another channel what a grant sets, and nothing else (R43). -/
theorem turn_others (s : State) {c d : ChanId} (sl : SlotId) (rx : Option Sample) (hd : d ≠ c) :
    GrantedTo (s.ch d) ((turn s c sl rx).ch d) := by
  have h := (local_turn s c sl rx).others d hd
  rwa [transmitStage_ch, (own_chosen s c).others d hd] at h

theorem turn_place (s : State) (c : ChanId) (sl : SlotId) (rx : Option Sample) :
    SamePlace (s.ch c) ((turn s c sl rx).ch c) := by
  have h := (local_turn s c sl rx).place
  rw [transmitStage_ch] at h
  exact (own_chosen s c).place.trans h

theorem turn_highway (s : State) (c : ChanId) (sl : SlotId) (rx : Option Sample) :
    (turn s c sl rx).highway
      = { s.highway with drive := s.highway.drive.set sl.val (some (sentSample s c)) } := by
  rw [(local_turn s c sl rx).highway, transmitStage_eq]

theorem turn_pageMem (s : State) (c : ChanId) (sl : SlotId) (rx : Option Sample) :
    (turn s c sl rx).pageMem
      = historyWrite s.pageMem (s.ch c).pages (s.ch c).writeIndex (sentSample s c) := by
  rw [(local_turn s c sl rx).pageMem, transmitStage_eq]

/-- A turn leaves all but the drive set, the pages, the survey unit, the channels, the notices and the data queue (R43). -/
theorem turn_rest (s : State) (c : ChanId) (sl : SlotId) (rx : Option Sample) :
    turn s c sl rx = { s with
      highway := (turn s c sl rx).highway
      pageMem := (turn s c sl rx).pageMem
      dsu := (turn s c sl rx).dsu
      channels := (turn s c sl rx).channels
      link := { s.link with
        notices := (turn s c sl rx).link.notices
        dataQueue := (turn s c sl rx).link.dataQueue } } := by
  rw [(local_turn s c sl rx).rest, transmitStage_eq, (own_chosen s c).rest]

theorem turn_notices (s : State) (c : ChanId) (sl : SlotId) (rx : Option Sample) :
    OthersStand (ofKinds c turnKinds) s (turn s c sl rx) := by
  have hchosen : OthersStand (ofKinds c turnKinds) s (transmitStage s c sl) := by
    have h := othersStand_mono (ofKinds_mono (more := turnKinds) (by simp [turnKinds])) (own_chosen s c).notices
    rw [transmitStage_eq]
    exact h
  exact othersStand_trans hchosen
    (othersStand_mono (ofKinds_mono (by simp [turnKinds])) (local_turn s c sl rx).notices)

end Sys2Proof.Proofs
end

section
/-! PROOF. The profiles, the quality state and the pending-reference lists (R10, R12, R131, R163, R177, R185). No act but the
completion of a block adds an entry, and a block is completed in a turn alone, so that a HALTED channel's list stays empty. -/

namespace Sys2Proof.Proofs
open Sys2Proof.Machine Sys2Proof.Safety Sys2Proof.Laws

/-! ### The profile table -/

/-- Every check of R180 passes exactly for a profile within the ranges of R177. -/
theorem fieldChecks_all {p : Profile} : (∀ e ∈ fieldChecks p, e.2.2 = true) ↔ InRange p := by
  simp only [fieldChecks, List.forall_mem_cons, decide_eq_true_eq]
  constructor
  · rintro ⟨h1, h2, h3, h4, h5, h6, h7, h8, h9, h10, h11, h12, h13, h14, h15, h16, -⟩
    exact ⟨h1, h2, h3, h4, h5, ⟨h6, h7, h8, h9⟩, h10, ⟨h11.1, h11.2, h12.1, h13.2.2, h13.2.1⟩, h14, h15, h16⟩
  · rintro ⟨h1, h2, h3, h4, h5, ⟨h6, h7, h8, h9⟩, h10, ⟨h11, h12, h13, h14, h15⟩, h16, h17, h18⟩
    exact ⟨h1, h2, h3, h4, h5, h6, h7, h8, h9, h10, ⟨h11, h12⟩, ⟨h13, by omega⟩, ⟨by omega, h15, h14⟩, h16, h17, h18,
      List.forall_mem_nil _⟩

theorem badField_eq_none_iff {p : Profile} : badField p = none ↔ InRange p := by
  rw [← fieldChecks_all, badField, Option.map_eq_none_iff, List.find?_eq_none]
  simp

theorem inRange_default : InRange defaultProfile := badField_eq_none_iff.1 (by decide)

/-- A profile written is read back at its slot, and every other slot as before (R181). -/
theorem profile_setProfile (s : State) {k : Nat} (hk : 1 ≤ k ∧ k ≤ 7) (p : Profile) (j : Nat) :
    (s.setProfile k p).profile j = if j = k then p else s.profile j := by
  unfold State.setProfile
  rw [dif_pos hk]
  unfold State.profile
  by_cases hj : 1 ≤ j ∧ j ≤ 7
  · rw [dif_pos hj, dif_pos hj, Vector.getElem_set]
    by_cases h : j = k
    · simp [h]
    · rw [if_neg h, if_neg (by omega)]
  · rw [dif_neg hj, dif_neg hj, if_neg (by omega)]

theorem profile_congr {s t : State} (h : t.profiles = s.profiles) (k : Nat) : t.profile k = s.profile k := by
  unfold State.profile
  rw [h]

theorem profile_of_default {s : State} (h : s.profiles = Vector.replicate 7 defaultProfile) (k : Nat) :
    s.profile k = defaultProfile := by
  unfold State.profile
  split
  · simp [h]
  · rfl

theorem profileTable_act {s t : State} (h : Act s t) (hs : ∀ k, InRange (s.profile k)) (k : Nat) :
    InRange (t.profile k) := by
  have same : ∀ {t : State}, t.profiles = s.profiles → InRange (t.profile k) := fun ht => profile_congr ht k ▸ hs k
  cases h with
  | highway | page | device | raised | link | unit | lock | snapshot | choice | chan | bind => exact hs k
  | guarded => exact same (by simp)
  | restarted => exact same (by simp)
  | clear => exact same (by simp)
  | queue e => exact same (by rw [queueSurvey_rest])
  | surveyEnd c i r => exact same (by rw [endRunning_rest])
  | cancel c r => exact same (by rw [recordWithdraw_rest])
  | quiesce c => exact same (by rw [State.modCh_profiles, cancelSurvey_rest])
  | release c =>
    refine same ?_
    change ((s.withdrawSurvey c).unmap c).profiles = _
    have hw : (s.withdrawSurvey c).profiles = s.profiles := by rw [(withdrawSurvey_granted s c).rest]
    unfold State.unmap
    split <;> exact hw
  | profile j p hp =>
    by_cases hj : 1 ≤ j ∧ j ≤ 7
    · rw [profile_setProfile s hj]
      split
      · exact badField_eq_none_iff.1 hp
      · exact hs k
    · rw [State.setProfile, dif_neg hj]
      exact hs k
  | reset r =>
    by_cases hr : (r && !s.lock) = true
    · exact profile_of_default (s := s.resetPart r) (if_pos hr) k ▸ inRange_default
    · exact same (if_neg hr)
  | powerUp low => exact profile_of_default (s := s.powerUp.setNrst low) (by simp [State.reset]) k ▸ inRange_default

theorem params_inv : ChanInv fun ch => InRange ch.params where
  step x y h hx := by rw [h.frame.2.2.1]; exact hx
  guarded x hx := by rw [(sameHolding_guarded x).params]; exact hx
  shared _ _ _ _ _ hx := hx
  quiesced _ _ hx := hx
  blank _ := inRange_default

theorem profileRanges_act {s t : State} (h : Act s t) (hs : ProfileRanges s) : ProfileRanges t :=
  ⟨profileTable_act h hs.1, params_inv.act h (fun _ k _ _ => hs.1 k) hs.2⟩

/-! ### The quality state -/

theorem qualityRange_step {x y : Channel} (h : ChanStep x y) (hx : QualityRange x.quality) : QualityRange y.quality := by
  obtain ⟨hrx, hres, herr, hcount, hslip⟩ := hx
  have same : ∀ {y : Channel}, y.quality = x.quality → QualityRange y.quality :=
    fun hy => hy ▸ ⟨hrx, hres, herr, hcount, hslip⟩
  cases h with
  | transmit probing => exact same (chooseSample_frame x probing).2.2.2.2.2.2.1
  | receive rx =>
    unfold receiveStage
    dsimp only
    split
    · exact ⟨hrx, hres, herr, hcount, Nat.min_le_right _ _⟩
    · exact same rfl
  | filter rx r => exact ⟨powerStep_le _ _ hrx, powerStep_le _ _ hres, herr, hcount, hslip⟩
  | arms => exact ⟨hrx, hres, herr, hcount, hslip⟩
  | matched seq erase refs =>
    obtain ⟨_, _, _, _, _, -, hp, hc, -, heq⟩ := matchRef_frame x seq erase refs
    rw [heq]
    exact ⟨hrx, hres, hp herr, hc hcount, hslip⟩
  | update u r => unfold echoUpdate; split <;> exact same rfl
  | expire => unfold expiredTraining; dsimp only; split <;> exact same rfl
  | complete => unfold makeEntry; split <;> exact same rfl
  | diverge => unfold divergedChannel; dsimp only; split <;> exact same rfl
  | taps set => cases set <;> exact same rfl
  | append | countDown | extend | counters | apply | strikes | emptied | ended | drainTick | halt | expireRefs | setEcho
  | setExt | delay | eqMode | cursor | checkpoint | restore => exact same rfl

theorem qualityRange_zero : QualityRange ⟨0, 0, 0, 0, 0, .armed, .armed⟩ := by
  refine ⟨?_, ?_, ?_, ?_, ?_⟩ <;> exact Nat.zero_le _

theorem quality_inv : ChanInv fun ch => QualityRange ch.quality where
  step _ _ := qualityRange_step
  guarded x hx := by unfold guardIfOpen; split <;> exact hx
  shared _ _ _ _ _ hx := hx
  quiesced _ _ hx := hx
  blank _ := qualityRange_zero

/-! ### The sequence numbers of the entries -/

theorem lastSeqs_length (next : Word) (n : Nat) : (lastSeqs next n).length = n := by
  induction n with
  | zero => rfl
  | succ n ih => rw [lastSeqs, List.length_cons, ih]

/-- The number just issued follows those issued before it (R128). -/
theorem lastSeqs_append (next : Word) (n : Nat) : lastSeqs next n ++ [next] = lastSeqs (next + 1) (n + 1) := by
  have hsub : ∀ m : Nat, next + 1 - BitVec.ofNat 16 (m + 1) = next - BitVec.ofNat 16 m := by
    intro m
    rw [BitVec.ofNat_add]
    bv_omega
  induction n with
  | zero => simp [lastSeqs]
  | succ n ih => rw [lastSeqs, List.cons_append, ih, lastSeqs.eq_2 (next + 1) (n + 1), hsub]

theorem lastSeqs_drop (next : Word) (n k : Nat) : (lastSeqs next n).drop k = lastSeqs next (n - k) := by
  induction k generalizing n with
  | zero => rfl
  | succ k ih =>
    cases n with
    | zero => rw [Nat.zero_sub]; exact List.drop_nil
    | succ n => rw [lastSeqs, List.drop_succ_cons, ih, Nat.succ_sub_succ]

/-- The newest entries of a list of the blocks issued last are again the blocks issued last. -/
theorem lastSeqs_suffix {next : Word} {l newer : List PendingEntry} (h : newer <:+ l)
    (hl : l.map (·.seq) = lastSeqs next l.length) : newer.map (·.seq) = lastSeqs next newer.length := by
  obtain ⟨older, rfl⟩ := h
  have hdrop := congrArg (List.drop older.length) hl
  rwa [lastSeqs_drop, List.map_append, List.drop_left' (by simp), List.length_append, Nat.add_sub_cancel_left] at hdrop

/-! ### The list of an open channel -/

/-- `PendingList` but for its clause on HALTED. -/
structure PendingCore (ch : Channel) : Prop where
  room : ch.eq.pendingRefs.length ≤ ch.params.refWindow
  seqs : ch.eq.pendingRefs.map (·.seq) = lastSeqs ch.eq.nextSeq ch.eq.pendingRefs.length
  sizes : ∀ e ∈ ch.eq.pendingRefs, e.outputs.length = ch.params.blockSize ∧ e.positions.length = ch.params.blockSize
  paired : ch.eq.positions.length = ch.eq.outputs.length
  bypass : ch.eq.mode = .bypass → ch.eq.pendingRefs = []

/-- What the core reads of a context besides the block under assembly. -/
theorem pendingCore_of {x y : Channel} (hx : PendingCore x) (hparams : y.params = x.params)
    (hseq : y.eq.nextSeq = x.eq.nextSeq) (hmode : y.eq.mode = x.eq.mode) (hrefs : y.eq.pendingRefs <:+ x.eq.pendingRefs)
    (hpaired : y.eq.positions.length = y.eq.outputs.length) : PendingCore y where
  room := by rw [hparams]; exact hrefs.length_le.trans hx.room
  seqs := by rw [hseq]; exact lastSeqs_suffix hrefs hx.seqs
  sizes e he := by rw [hparams]; exact hx.sizes e (hrefs.subset he)
  paired := hpaired
  bypass h := List.suffix_nil.1 (hx.bypass (hmode ▸ h) ▸ hrefs)

/-- A context whose block, mode, numbers and list stand. -/
theorem pendingCore_same {x y : Channel} (hx : PendingCore x) (hparams : y.params = x.params)
    (heq : y.eq.nextSeq = x.eq.nextSeq ∧ y.eq.mode = x.eq.mode ∧ y.eq.pendingRefs = x.eq.pendingRefs
      ∧ y.eq.positions = x.eq.positions ∧ y.eq.outputs = x.eq.outputs) : PendingCore y := by
  obtain ⟨hseq, hmode, hrefs, hpos, hout⟩ := heq
  exact pendingCore_of hx hparams hseq hmode (hrefs ▸ List.suffix_rfl) (by rw [hpos, hout, hx.paired])

/-- An empty list is the list of any numbers. -/
theorem pendingCore_nil {y : Channel} (hrefs : y.eq.pendingRefs = []) (hpaired : y.eq.positions.length = y.eq.outputs.length) :
    PendingCore y :=
  ⟨by rw [hrefs]; exact Nat.zero_le _, by rw [hrefs]; rfl, by rw [hrefs]; exact List.forall_mem_nil _, hpaired,
    fun _ => hrefs⟩

/-- The list with a completed block's entry, the oldest expired where it was full (R132). -/
theorem pendingCore_complete {x : Channel} (hr : InRange x.params) (hx : PendingCore x)
    (h : x.eq.outputs.length = x.params.blockSize) (k : ChanCounters) :
    PendingCore { makeEntry (consumeSeq x) (entryOf x) with counters := k } := by
  unfold makeEntry
  split
  · next hb => exact pendingCore_nil (hx.bypass hb) hx.paired
  · next hb =>
    have key : ∀ l : List PendingEntry, l <:+ x.eq.pendingRefs → l.length < x.params.refWindow →
        PendingCore { consumeSeq x with
          eq := { (consumeSeq x).eq with pendingRefs := l ++ [entryOf x] }, counters := k } := by
      intro l hl hroom
      refine ⟨?_, ?_, fun e he => ?_, hx.paired, fun hmode => absurd hmode hb⟩
      · simpa [consumeSeq] using hroom
      · dsimp only [consumeSeq]
        rw [List.map_append, lastSeqs_suffix hl hx.seqs, List.length_append]
        exact lastSeqs_append _ _
      · obtain he | he := List.mem_append.1 he
        · exact hx.sizes e (hl.subset he)
        · rw [List.mem_singleton.1 he]
          exact ⟨h, hx.paired.trans h⟩
    have hwindow := hr.window.1
    have hroom := hx.room
    by_cases hfull : x.params.refWindow ≤ x.eq.pendingRefs.length
    · have hkey := key (x.eq.pendingRefs.drop 1) (List.drop_suffix _ _) (by rw [List.length_drop]; omega)
      simpa [consumeSeq, hfull] using hkey
    · have hkey := key x.eq.pendingRefs List.suffix_rfl (by omega)
      simpa [consumeSeq, hfull] using hkey

theorem pendingCore_step {x y : Channel} (h : ChanStep x y) (hr : InRange x.params) (hx : PendingCore x) :
    PendingCore y := by
  cases h with
  | transmit probing =>
    obtain ⟨-, -, hparams, -⟩ := chooseSample_frame x probing
    refine pendingCore_same hx hparams ?_
    obtain ⟨-, h⟩ | ⟨-, -, -, h⟩ | ⟨-, -, h⟩ := chooseSample_cases x probing <;> rw [h]
    · exact ⟨rfl, rfl, rfl, rfl, rfl⟩
    · exact ⟨rfl, rfl, rfl, rfl, rfl⟩
    · cases hq : x.tx.queue with
      | nil => rw [chooseQueue_nil hq]; exact ⟨rfl, rfl, rfl, rfl, rfl⟩
      | cons => rw [chooseQueue_cons hq]; exact ⟨rfl, rfl, rfl, rfl, rfl⟩
  | filter rx r =>
    refine pendingCore_of hx rfl rfl rfl List.suffix_rfl ?_
    simp [eqStage, powerStage, hx.paired]
  | complete k h => exact pendingCore_complete hr hx h k
  | emptied => exact pendingCore_of hx rfl rfl rfl List.suffix_rfl rfl
  | expireRefs k => exact pendingCore_nil rfl hx.paired
  | matched seq erase refs =>
    obtain ⟨_, _, _, _, newer, -, -, -, hnewer, heq⟩ := matchRef_frame x seq erase refs
    rw [heq]
    exact pendingCore_of hx rfl rfl rfl hnewer hx.paired
  | eqMode mode k =>
    by_cases hm : mode = .bypass
    · exact pendingCore_nil (if_pos hm) hx.paired
    · refine ⟨?_, ?_, ?_, hx.paired, fun h => absurd h hm⟩ <;> dsimp only <;> rw [if_neg hm]
      · exact hx.room
      · exact hx.seqs
      · exact hx.sizes
  | receive rx =>
    unfold receiveStage
    dsimp only
    split <;> exact pendingCore_same hx rfl ⟨rfl, rfl, rfl, rfl, rfl⟩
  | update u r => unfold echoUpdate; split <;> exact pendingCore_same hx rfl ⟨rfl, rfl, rfl, rfl, rfl⟩
  | expire =>
    unfold expiredTraining
    dsimp only
    split <;> exact pendingCore_same hx rfl ⟨rfl, rfl, rfl, rfl, rfl⟩
  | diverge =>
    unfold divergedChannel
    dsimp only
    split <;> exact pendingCore_same hx rfl ⟨rfl, rfl, rfl, rfl, rfl⟩
  | taps set => cases set <;> exact pendingCore_same hx rfl ⟨rfl, rfl, rfl, rfl, rfl⟩
  | append | countDown | extend | counters | apply | strikes | arms | ended | drainTick | halt | setEcho | setExt | delay
  | cursor | checkpoint | restore => exact pendingCore_same hx rfl ⟨rfl, rfl, rfl, rfl, rfl⟩

theorem pendingCore_inv : ChanInv fun ch => InRange ch.params ∧ PendingCore ch where
  step x y h hx := ⟨params_inv.step x y h hx.1, pendingCore_step h hx.1 hx.2⟩
  guarded x hx := by
    refine ⟨params_inv.guarded x hx.1, ?_⟩
    unfold guardIfOpen
    split
    · exact pendingCore_same hx.2 rfl ⟨rfl, rfl, rfl, rfl, rfl⟩
    · exact hx.2
  shared x _ _ _ _ hx := ⟨hx.1, pendingCore_same hx.2 rfl ⟨rfl, rfl, rfl, rfl, rfl⟩⟩
  quiesced x _ hx := ⟨hx.1, pendingCore_of hx.2 rfl rfl rfl List.suffix_rfl rfl⟩
  blank k := ⟨inRange_default, pendingCore_nil rfl rfl⟩

theorem pendingCores_act {s t : State} (h : Act s t)
    (hs : (∀ k, InRange (s.profile k)) ∧ ∀ c, InRange (s.ch c).params ∧ PendingCore (s.ch c)) :
    (∀ k, InRange (t.profile k)) ∧ ∀ c, InRange (t.ch c).params ∧ PendingCore (t.ch c) :=
  ⟨profileTable_act h hs.1, pendingCore_inv.act h (fun _ k _ _ => ⟨hs.1 k, pendingCore_nil rfl rfl⟩) hs.2⟩

/-! ### The empty list of a HALTED channel -/

/-- A HALTED channel's list is empty (R133). -/
def HaltEmpty (ch : Channel) : Prop := ch.state = .halted → ch.eq.pendingRefs = []

/-- Every HALTED channel's list is empty. -/
def HaltsEmpty (s : State) : Prop := ∀ c : ChanId, HaltEmpty (s.ch c)

theorem haltEmpty_same {x y : Channel} (hs : y.state = x.state) (hr : y.eq.pendingRefs = x.eq.pendingRefs)
    (hx : HaltEmpty x) : HaltEmpty y := fun h => hr.trans (hx (hs.symm.trans h))

theorem haltEmpty_granted {x y : Channel} (h : GrantedTo x y) (hx : HaltEmpty x) : HaltEmpty y := by
  obtain ⟨_, _, rfl⟩ := h
  exact hx

theorem haltEmpty_shared {x y : Channel} (h : ∃ sv lr k p, y = withShared x sv lr k p) (hx : HaltEmpty x) :
    HaltEmpty y := by
  obtain ⟨_, _, _, _, rfl⟩ := h
  exact hx

theorem haltsEmpty_setCh {s : State} {c : ChanId} {x : Channel} (hx : HaltEmpty (s.ch c) → HaltEmpty x)
    (hs : HaltsEmpty s) : HaltsEmpty (s.setCh c x) := by
  intro d
  rw [ch_setCh]
  split
  · exact hx (hs c)
  · exact hs d

theorem haltsEmpty_modCh {s : State} {c : ChanId} {f : Channel → Channel} (hf : ∀ ch, HaltEmpty ch → HaltEmpty (f ch))
    (hs : HaltsEmpty s) : HaltsEmpty (s.modCh c f) := haltsEmpty_setCh (hf _) hs

/-! #### Turns, drains and the highway -/

theorem haltEmpty_expired (ch : Channel) (h : HaltEmpty ch) : HaltEmpty (expiredTraining ch) := by
  refine haltEmpty_same (expiredTraining_place ch).state ?_ h
  unfold expiredTraining
  dsimp only
  split <;> rfl

theorem haltsEmpty_count {s : State} (c : ChanId) (f : ChanCounters → ChanCounters) (hs : HaltsEmpty s) :
    HaltsEmpty (s.count c f) := haltsEmpty_modCh (fun _ => id) hs

theorem haltsEmpty_endDrain {s : State} {c : ChanId} (cause : DrainCause) (n : Nat) (h : (s.ch c).eq.pendingRefs = [])
    (hs : HaltsEmpty s) : HaltsEmpty (s.endDrain c cause n) := haltsEmpty_setCh (fun _ _ => h) hs

theorem haltsEmpty_endDrainExpiring {s : State} (c : ChanId) (cause : DrainCause) (hs : HaltsEmpty s) :
    HaltsEmpty (s.endDrainExpiring c cause) :=
  haltsEmpty_endDrain cause _ (by simp [State.expireAll]) (haltsEmpty_setCh (fun _ _ => rfl) hs)

theorem haltsEmpty_drainFrame {s : State} (c : ChanId) (hs : HaltsEmpty s) : HaltsEmpty (drainFrame s c) := by
  have h : HaltsEmpty (s.modCh c fun ch => { ch with drainCount := ch.drainCount + 1 }) :=
    haltsEmpty_modCh (fun _ => id) hs
  unfold drainFrame
  dsimp only
  split
  · exact haltsEmpty_endDrainExpiring c _ h
  · exact h

/-- The channel of a turn is not HALTED, and a turn adds no entry to another's list. -/
theorem haltsEmpty_turn {s : State} {c : ChanId} (sl : SlotId) (rx : Option Sample) (ho : (s.ch c).state = .opened)
    (hs : HaltsEmpty s) : HaltsEmpty (turn s c sl rx) := by
  intro d
  by_cases hd : d = c
  · intro hhalt
    rw [hd, (turn_place s c sl rx).state, ho] at hhalt
    cases hhalt
  · exact haltEmpty_granted (turn_others s sl rx hd) (hs d)

theorem haltsEmpty_channelFrame {s : State} (rx : Option (Vector Sample 64)) (c : ChanId) (hs : HaltsEmpty s) :
    HaltsEmpty (channelFrame rx s c) := by
  unfold channelFrame
  split
  · next ho =>
    split
    · exact haltsEmpty_turn _ _ ho hs
    · exact hs
  · exact haltsEmpty_drainFrame c hs
  · exact hs
  · exact hs

theorem haltsEmpty_foldl {f : State → ChanId → State} (hf : ∀ s c, HaltsEmpty s → HaltsEmpty (f s c))
    (cs : List ChanId) {s : State} (hs : HaltsEmpty s) : HaltsEmpty (cs.foldl f s) := by
  induction cs generalizing s with
  | nil => exact hs
  | cons c cs ih => exact ih (hf s c hs)

theorem haltsEmpty_channelsAtFrame {s : State} (rx : Option (Vector Sample 64)) (hs : HaltsEmpty s) :
    HaltsEmpty (s.channelsAtFrame rx) := by
  have h : HaltsEmpty ((s.channelsInFreeOrder s.activeAtFrame).foldl (channelFrame rx) s.fixDrive) :=
    haltsEmpty_foldl (fun _ => haltsEmpty_channelFrame rx) _ fun d => by rw [State.fixDrive_ch]; exact hs d
  exact h

theorem haltsEmpty_loseHighway {s : State} (sync : Bool) (hs : HaltsEmpty s) : HaltsEmpty (s.loseHighway sync) := by
  have hdrain : ∀ (u : State) (c : ChanId), HaltsEmpty u → HaltsEmpty (loseDrain u c) := by
    intro u c hu
    unfold loseDrain
    split
    · exact haltsEmpty_endDrainExpiring c _ hu
    · exact hu
  unfold State.loseHighway State.loseDrains
  exact haltsEmpty_foldl hdrain _ fun d => hs d

theorem haltsEmpty_huntSync {s : State} (count : Nat) (hs : HaltsEmpty s) : HaltsEmpty (s.huntSync count) := by
  have hacquire : ∀ u : State, HaltsEmpty u → HaltsEmpty u.acquire := by
    intro u hu d
    unfold State.acquire
    dsimp only
    rw [State.fixDrive_ch, State.restartSurveys_ch, State.guardOpen_ch]
    unfold guardIfOpen
    split <;> exact hu d
  unfold State.huntSync
  split
  · split
    · exact hacquire (s.huntRun 2) hs
    · exact hs
  · exact hs

theorem haltsEmpty_bitClock {s : State} (hs : HaltsEmpty s) : HaltsEmpty s.bitClock := by
  unfold State.bitClock
  split
  · split
    · exact hs
    · exact haltsEmpty_loseHighway false hs
  all_goals split <;> exact hs

theorem haltsEmpty_endRunning {s : State} (c : ChanId) (i : Fin 4) (r : SurveyRecord) (hs : HaltsEmpty s) :
    HaltsEmpty (s.endRunning c i r) := fun d => haltEmpty_shared (endRunning_shared s c d i r) (hs d)

theorem haltsEmpty_endWindow {s : State} (c : ChanId) (i : Fin 4) (k : Correlator) (hs : HaltsEmpty s) :
    HaltsEmpty (s.endWindow c i k) := by
  rw [endWindow_eq]
  refine haltsEmpty_endRunning c i _ (haltsEmpty_setCh (fun h => ?_) hs)
  unfold windowApplied
  split <;> exact h

/-! #### Inbound and outbound bytes -/

theorem haltEmpty_matched (seq : Word) (erase : Bool) (refs : List Sample) (ch : Channel) (h : HaltEmpty ch) :
    HaltEmpty (matchRef ch seq erase refs) := by
  obtain ⟨_, _, _, _, newer, -, -, -, hnewer, heq⟩ := matchRef_frame ch seq erase refs
  rw [heq]
  exact fun hs => List.suffix_nil.1 (h hs ▸ hnewer)

theorem haltsEmpty_arriveRefBlock {s : State} (f : Frame) (hs : HaltsEmpty s) : HaltsEmpty (arriveRefBlock s f) := by
  have hact : ∀ c seq erase refs, HaltsEmpty (actOnRef s c seq erase refs) := by
    intro c seq erase refs
    have h : HaltsEmpty (s.modCh c fun ch => matchRef ch seq erase refs) :=
      haltsEmpty_modCh (haltEmpty_matched seq erase refs) hs
    unfold actOnRef
    split
    · unfold State.drainIfEmpty
      split
      · next hd => exact haltsEmpty_endDrain _ _ hd.2 h
      · exact h
    all_goals exact haltsEmpty_count c _ hs
  unfold arriveRefBlock takeRefBlock
  split
  · exact hs
  · dsimp only
    split
    · exact hs
    · split
      · exact haltsEmpty_count _ _ hs
      · exact hact _ _ _ _

theorem haltsEmpty_arriveTxBlock {s : State} (f : Frame) (hs : HaltsEmpty s) : HaltsEmpty (arriveTxBlock s f) := by
  unfold arriveTxBlock takeTxBlock
  split
  · exact hs
  · next c _ =>
    dsimp only
    split
    · exact hs
    · split
      · exact haltsEmpty_count _ _ hs
      · split
        · exact haltsEmpty_count _ _ hs
        · have h : HaltsEmpty (s.setCh c (appendSamples (s.ch c) (payloadWords f.payload)).channel) :=
            haltsEmpty_setCh id hs
          cases (appendSamples (s.ch c) (payloadWords f.payload)).notice <;> exact h

theorem haltsEmpty_dispatch {s : State} (f : Frame) (hs : HaltsEmpty s) : HaltsEmpty (dispatch s f) := by
  unfold dispatch
  split
  · exact haltsEmpty_arriveTxBlock f hs
  · split
    · exact haltsEmpty_arriveRefBlock f hs
    · unfold arriveRequest
      split <;> exact hs

theorem haltsEmpty_rescan (n : Nat) (bytes : List Byte) {s : State} (hs : HaltsEmpty s) :
    HaltsEmpty (rescan n bytes s) := by
  induction n generalizing bytes s with
  | zero => exact hs
  | succ n ih =>
    cases bytes with
    | nil => exact hs
    | cons b bs =>
      unfold rescan
      split
      · exact ih bs hs
      · split
        · exact hs
        · exact ih bs (s := s.countBadFrame) hs
        · exact ih _ (haltsEmpty_dispatch _ hs)

theorem haltsEmpty_completeFrame {s : State} (source : OutSource) (hs : HaltsEmpty s) :
    HaltsEmpty (s.completeFrame source) := by
  unfold State.completeFrame
  dsimp only
  split
  · exact hs
  · exact hs
  · exact hs
  · split
    · exact haltsEmpty_count _ _ hs
    · exact hs

/-! #### Requests -/

theorem haltsEmpty_takeRequest {mine : Frame → Bool} {kind : Frame → Byte} {act : State → Frame → Answer} {s t : State}
    (ha : ∀ u f, HaltsEmpty u → HaltsEmpty (act u f).state) (h : takeRequest s mine kind act = .next t)
    (hs : HaltsEmpty s) : HaltsEmpty t := by
  unfold takeRequest unlessHeld at h
  split at h
  · exact Host.Outcome.next.inj h ▸ hs
  · split at h
    · cases h
    · next f rest _ =>
      split at h
      · split at h
        · have hact := ha (s.modLink fun l => { l with requests := rest }) f hs
          exact Host.Outcome.next.inj h ▸ hact
        · exact Host.Outcome.next.inj h ▸ hs
      · cases h

theorem haltsEmpty_device {lengthOk : Nat → Bool} {act : State → Frame → Answer}
    (ha : ∀ u f, HaltsEmpty u → HaltsEmpty (act u f).state) (s : State) (f : Frame) (hs : HaltsEmpty s) :
    HaltsEmpty (deviceRequest lengthOk act s f).state := by
  unfold deviceRequest
  split
  · exact ha s f hs
  · exact hs

theorem haltsEmpty_channel {lengthOk : Nat → Bool} {act : State → Frame → ChanId → Answer}
    (ha : ∀ u f c, HaltsEmpty u → HaltsEmpty (act u f c).state) (s : State) (f : Frame) (hs : HaltsEmpty s) :
    HaltsEmpty (channelRequest lengthOk act s f).state := by
  unfold channelRequest
  split
  · exact hs
  · split
    · exact ha s f _ hs
    · exact hs

theorem haltsEmpty_inStates {s : State} {c : ChanId} {states : List ChanState} {a : Answer} (hs : HaltsEmpty s)
    (ha : HaltsEmpty a.state) : HaltsEmpty (inStates s c states a).state := by
  unfold inStates
  split
  · exact ha
  · exact hs

theorem haltsEmpty_profileWrite (s : State) (f : Frame) (hs : HaltsEmpty s) : HaltsEmpty (actProfileWrite s f).state := by
  unfold actProfileWrite
  split
  · exact hs
  · split
    · exact hs
    · split
      · exact hs
      · split
        · exact hs
        · dsimp only
          unfold State.setProfile
          split <;> exact hs

theorem haltsEmpty_statsSnapshot (s : State) (f : Frame) (hs : HaltsEmpty s) :
    HaltsEmpty (actStatsSnapshot s f).state := by
  unfold actStatsSnapshot
  dsimp only
  split
  · intro d
    rw [State.clearCounters_ch]
    exact hs d
  · exact hs

theorem haltsEmpty_statsRead (s : State) (f : Frame) (hs : HaltsEmpty s) : HaltsEmpty (actStatsRead s f).state := by
  unfold actStatsRead
  split
  · exact hs
  · split <;> exact hs

theorem haltsEmpty_bind (s : State) (f : Frame) (c : ChanId) (hs : HaltsEmpty s) : HaltsEmpty (actBind s f c).state := by
  have hadmit : ∀ sl p, HaltsEmpty (s.admitCall c sl p) := by
    intro sl p d
    rw [admit_ch]
    split
    · exact nofun
    · exact hs d
  unfold actBind admitIfRoom
  repeat' split
  all_goals first | exact hs | exact hadmit _ _

theorem haltsEmpty_quiesce (s : State) (f : Frame) (c : ChanId) (hs : HaltsEmpty s) :
    HaltsEmpty (actQuiesce s f c).state := by
  have hquiet : HaltsEmpty ((s.cancelSurvey c).modCh c quiescedChannel) :=
    haltsEmpty_setCh (fun _ => nofun) fun d => haltEmpty_shared (cancel_shared s c d) (hs d)
  unfold actQuiesce
  split
  · change HaltsEmpty (s.quiesce c)
    unfold State.quiesce State.drainAtOnce
    split
    · next hp => exact haltsEmpty_endDrain _ _ hp hquiet
    · split
      · exact haltsEmpty_endDrainExpiring c _ hquiet
      · exact hquiet
  all_goals exact hs

theorem haltsEmpty_release (s : State) (f : Frame) (c : ChanId) (hs : HaltsEmpty s) :
    HaltsEmpty (actRelease s f c).state := by
  refine haltsEmpty_inStates hs fun d => ?_
  obtain ⟨-, h⟩ | ⟨-, h⟩ := release_ch s c d
  · rw [show (s.release c).ch d = _ from h]
    exact nofun
  · exact haltEmpty_shared h (hs d)

theorem haltsEmpty_echoMode (s : State) (f : Frame) (c : ChanId) (hs : HaltsEmpty s) :
    HaltsEmpty (actEchoMode s f c).state := by
  have hset : ∀ mode count thenMode, HaltsEmpty (answerEchoMode s c mode count thenMode).state := fun _ _ _ =>
    haltsEmpty_inStates hs (haltsEmpty_setCh id hs)
  unfold actEchoMode
  split
  · exact hs
  · split
    · exact hset _ _ _
    · exact hs
  · exact hset _ _ _
  · exact hset _ _ _

theorem haltsEmpty_echoExtend (s : State) (f : Frame) (c : ChanId) (hs : HaltsEmpty s) :
    HaltsEmpty (actEchoExtend s f c).state := by
  refine haltsEmpty_inStates hs ?_
  repeat' split
  all_goals first | exact hs | exact haltsEmpty_setCh id hs

theorem haltsEmpty_setDelay (s : State) (f : Frame) (c : ChanId) (hs : HaltsEmpty s) :
    HaltsEmpty (actSetDelay s f c).state := haltsEmpty_inStates hs (haltsEmpty_setCh id hs)

theorem haltsEmpty_eqMode (s : State) (f : Frame) (c : ChanId) (hs : HaltsEmpty s) :
    HaltsEmpty (actEqMode s f c).state := by
  unfold actEqMode
  split
  · exact hs
  · refine haltsEmpty_inStates hs ?_
    dsimp only
    rw [setEqMode_eq]
    refine haltsEmpty_setCh (fun h hh => ?_) hs
    change (if _ then _ else _) = _
    split
    · rfl
    · exact h hh

theorem haltsEmpty_tapsRead (s : State) (f : Frame) (c : ChanId) (hs : HaltsEmpty s) :
    HaltsEmpty (actTapsRead s f c).state := by
  unfold actTapsRead readTaps
  split
  · exact hs
  · split
    · exact hs
    · refine haltsEmpty_inStates hs ?_
      repeat' split
      all_goals first | exact hs | exact haltsEmpty_setCh id hs

theorem haltsEmpty_tapsWrite (s : State) (f : Frame) (c : ChanId) (hs : HaltsEmpty s) :
    HaltsEmpty (actTapsWrite s f c).state := by
  unfold actTapsWrite writeTaps
  split
  · exact hs
  · next set _ =>
    split
    · split
      · exact hs
      · refine haltsEmpty_modCh (fun ch h => ?_) hs
        cases set <;> exact h
    · exact hs

theorem haltsEmpty_restore (s : State) (f : Frame) (c : ChanId) (hs : HaltsEmpty s) :
    HaltsEmpty (actRestore s f c).state := by
  refine haltsEmpty_inStates hs ?_
  split
  · exact hs
  · exact haltsEmpty_setCh id hs

theorem haltsEmpty_survey (s : State) (f : Frame) (c : ChanId) (hs : HaltsEmpty s) :
    HaltsEmpty (actSurvey s f c).state := by
  refine haltsEmpty_inStates hs ?_
  split
  · exact hs
  · exact fun d => haltEmpty_shared (queueSurvey_shared s _ d) (hs d)

theorem haltsEmpty_surveyCancel (s : State) (f : Frame) (c : ChanId) (hs : HaltsEmpty s) :
    HaltsEmpty (actSurveyCancel s f c).state := by
  refine haltsEmpty_inStates hs ?_
  split
  · exact fun d => haltEmpty_shared (cancel_shared s c d) (hs d)
  · exact hs

/-! #### Every command -/

theorem haltsEmpty_unlessHeld {s t : State} {body : StepResult} (hb : body = .next t → HaltsEmpty t)
    (h : unlessHeld s body = .next t) (hs : HaltsEmpty s) : HaltsEmpty t := by
  unfold unlessHeld at h
  split at h
  · exact Host.Outcome.next.inj h ▸ hs
  · exact hb h

theorem haltsEmpty_done {u t : State} (hu : HaltsEmpty u) (h : u.done = .next t) : HaltsEmpty t :=
  Host.Outcome.next.inj h ▸ hu

/-- A guarded command completes its act or refuses. -/
theorem haltsEmpty_guarded {s t u : State} {g : Prop} [Decidable g] {r : Refusal} (hu : HaltsEmpty s → HaltsEmpty u)
    (h : unlessHeld s (if g then u.done else .refused r) = .next t) (hs : HaltsEmpty s) : HaltsEmpty t := by
  refine haltsEmpty_unlessHeld (fun h => ?_) h hs
  split at h
  · exact haltsEmpty_done (hu hs) h
  · cases h

theorem haltsEmpty_powerUp (s : State) : HaltsEmpty s.powerUp := by
  intro d
  rw [State.powerUp_ch]
  exact nofun

theorem haltsEmpty_exec {i : Instr} {s t : State} (h : exec i s = .next t) (hs : HaltsEmpty s) : HaltsEmpty t := by
  cases i with
  | powerUp =>
    have hdone : s.powerUp.done = .next t := h
    exact haltsEmpty_done (haltsEmpty_powerUp s) hdone
  | nrstHeldLow =>
    have hdone : (s.powerUp.setNrst true).done = .next t := h
    refine haltsEmpty_done (fun d => ?_) hdone
    rw [State.setNrst_ch]
    exact haltsEmpty_powerUp s d
  | huntSync hfs => exact haltsEmpty_guarded (s := s) (fun hs => haltsEmpty_huntSync (s := s.foundHfs hfs) _ hs) h hs
  | frameEnd frame =>
    exact haltsEmpty_guarded (s := s) (fun hs => haltsEmpty_channelsAtFrame (s := (s.foundHfs frame.hfs).countFrame) _ hs) h hs
  | slip hfs =>
    refine haltsEmpty_guarded (s := s) (fun hs => ?_) h hs
    exact haltsEmpty_channelsAtFrame (s := ((s.foundHfs hfs).countFrame.countDev _).raiseHighway .slip) none hs
  | highwayLoss hfs => exact haltsEmpty_guarded (s := s) (fun hs => haltsEmpty_loseHighway (s := s.foundHfs hfs) _ hs) h hs
  | trainExpiry c =>
    refine haltsEmpty_guarded (s := s) (fun hs => ?_) h hs
    exact haltsEmpty_count c _ (haltsEmpty_modCh haltEmpty_expired hs)
  | drainTimeout c => exact haltsEmpty_guarded (fun hs => haltsEmpty_endDrainExpiring c .timeout hs) h hs
  | extensionTaken c =>
    refine haltsEmpty_unlessHeld (fun h => ?_) h hs
    split at h
    · split at h
      · exact haltsEmpty_done (haltsEmpty_modCh (f := (takenExtension · _)) (fun _ => id) hs) h
      · cases h
    · cases h
  | leadInEnd c =>
    refine haltsEmpty_unlessHeld (fun h => ?_) h hs
    split at h
    · split at h
      · exact haltsEmpty_done (u := s.setUnit _ _) hs h
      · cases h
    · cases h
  | windowEnd c =>
    refine haltsEmpty_unlessHeld (fun h => ?_) h hs
    split at h
    · split at h
      · exact haltsEmpty_done (haltsEmpty_endWindow c _ _ hs) h
      · cases h
    · cases h
  | chipSelectRise => exact haltsEmpty_unlessHeld (haltsEmpty_done (u := s.modLink _) hs) h hs
  | badFrame sdi =>
    refine haltsEmpty_unlessHeld (fun h => ?_) h hs
    split at h
    · next bytes _ =>
      exact haltsEmpty_done (haltsEmpty_rescan _ bytes (s := (s.setReceiver .hunt []).countBadFrame) hs) h
    all_goals cases h
  | requestArrival sdi =>
    refine haltsEmpty_unlessHeld (fun h => ?_) h hs
    split at h
    · split at h
      · refine haltsEmpty_done ?_ h
        unfold arriveRequest
        split <;> exact hs
      · cases h
    all_goals cases h
  | txBlock sdi =>
    refine haltsEmpty_unlessHeld (fun h => ?_) h hs
    split at h
    · split at h
      · exact haltsEmpty_done (haltsEmpty_arriveTxBlock (s := s.setReceiver .hunt []) _ hs) h
      · cases h
    all_goals cases h
  | refBlock sdi =>
    refine haltsEmpty_unlessHeld (fun h => ?_) h hs
    split at h
    · split at h
      · exact haltsEmpty_done (haltsEmpty_arriveRefBlock (s := s.setReceiver .hunt []) _ hs) h
      · cases h
    all_goals cases h
  | inboundByte sdi =>
    refine haltsEmpty_unlessHeld (fun h => ?_) h hs
    split at h
    · exact haltsEmpty_done (u := s.modLink _) hs h
    · exact haltsEmpty_done (u := s.setReceiver _ _) hs h
    all_goals cases h
  | arbiterChoice =>
    refine haltsEmpty_unlessHeld (fun h => ?_) h hs
    split at h
    · exact haltsEmpty_done (u := s.modLink _) hs h
    · cases h
  | outboundFrameComplete n =>
    refine haltsEmpty_unlessHeld (fun h => ?_) h hs
    split at h
    · cases h
    · refine haltsEmpty_done ?_ h
      split
      · exact haltsEmpty_completeFrame (s := s.modLink _) _ hs
      · exact hs
  | unknownKind => exact haltsEmpty_takeRequest (fun _ _ => id) h hs
  | info => exact haltsEmpty_takeRequest (haltsEmpty_device fun _ _ => id) h hs
  | reset =>
    refine haltsEmpty_takeRequest (haltsEmpty_device fun u f _ d => ?_) h hs
    rw [show (actReset u f).state.ch d = _ from State.resetPart_ch _ _ d]
    exact nofun
  | profileWrite => exact haltsEmpty_takeRequest (haltsEmpty_device haltsEmpty_profileWrite) h hs
  | profileRead =>
    refine haltsEmpty_takeRequest (haltsEmpty_device fun u f hu => ?_) h hs
    unfold actProfileRead
    split <;> exact hu
  | profileLock => exact haltsEmpty_takeRequest (haltsEmpty_device fun _ _ => id) h hs
  | statsSnapshot => exact haltsEmpty_takeRequest (haltsEmpty_device haltsEmpty_statsSnapshot) h hs
  | statsRead => exact haltsEmpty_takeRequest (haltsEmpty_device haltsEmpty_statsRead) h hs
  | bind => exact haltsEmpty_takeRequest (haltsEmpty_channel haltsEmpty_bind) h hs
  | quiesce => exact haltsEmpty_takeRequest (haltsEmpty_channel haltsEmpty_quiesce) h hs
  | release => exact haltsEmpty_takeRequest (haltsEmpty_channel haltsEmpty_release) h hs
  | echoMode => exact haltsEmpty_takeRequest (haltsEmpty_channel haltsEmpty_echoMode) h hs
  | echoExtend => exact haltsEmpty_takeRequest (haltsEmpty_channel haltsEmpty_echoExtend) h hs
  | setDelay => exact haltsEmpty_takeRequest (haltsEmpty_channel haltsEmpty_setDelay) h hs
  | eqMode => exact haltsEmpty_takeRequest (haltsEmpty_channel haltsEmpty_eqMode) h hs
  | tapsRead => exact haltsEmpty_takeRequest (haltsEmpty_channel haltsEmpty_tapsRead) h hs
  | tapsWrite => exact haltsEmpty_takeRequest (haltsEmpty_channel haltsEmpty_tapsWrite) h hs
  | checkpoint =>
    refine haltsEmpty_takeRequest (haltsEmpty_channel fun _ _ _ hu => haltsEmpty_inStates hu ?_) h hs
    exact haltsEmpty_modCh (f := takeCheckpoint) (fun _ => id) hu
  | restore => exact haltsEmpty_takeRequest (haltsEmpty_channel haltsEmpty_restore) h hs
  | survey => exact haltsEmpty_takeRequest (haltsEmpty_channel haltsEmpty_survey) h hs
  | surveyCancel => exact haltsEmpty_takeRequest (haltsEmpty_channel haltsEmpty_surveyCancel) h hs
  | quality => exact haltsEmpty_takeRequest (haltsEmpty_channel fun _ _ _ hu => haltsEmpty_inStates hu hu) h hs

theorem haltsEmpty_step {s t : State} (h : step s = .next t) (hs : HaltsEmpty s) : HaltsEmpty t := by
  unfold step at h
  split at h
  · refine haltsEmpty_unlessHeld (fun h => ?_) h hs
    exact Host.Outcome.next.inj h ▸ haltsEmpty_bitClock (s := s.foundHfs [false]) hs
  · exact haltsEmpty_exec h hs

/-! ### The statement -/

theorem pendingList_iff (ch : Channel) : PendingList ch ↔ PendingCore ch ∧ HaltEmpty ch := by
  constructor
  · rintro ⟨hroom, hseqs, hsizes, hpaired, hempty⟩
    exact ⟨⟨hroom, hseqs, hsizes, hpaired, fun h => hempty (.inl h)⟩, fun h => hempty (.inr h)⟩
  · rintro ⟨⟨hroom, hseqs, hsizes, hpaired, hbypass⟩, hhalt⟩
    exact ⟨hroom, hseqs, hsizes, hpaired, fun h => h.elim hbypass hhalt⟩

theorem pendingLists_step {s t : State} (h : step s = .next t) (hr : ProfileRanges s) (hs : PendingLists s) :
    PendingLists t := by
  have hcore := step_keep (P := fun s => (∀ k, InRange (s.profile k)) ∧ ∀ c, InRange (s.ch c).params ∧ PendingCore (s.ch c))
    (fun _ _ => pendingCores_act) (fun _ _ h => h) h
    ⟨hr.1, fun c => ⟨hr.2 c, ((pendingList_iff _).1 (hs c)).1⟩⟩
  have hhalt := haltsEmpty_step h fun c => ((pendingList_iff _).1 (hs c)).2
  exact fun c => (pendingList_iff _).2 ⟨(hcore.2 c).2, hhalt c⟩

/-- Settles O57: ranges are kept by every act; the lists too, but for HALTED, whose lists no command but a turn could fill. -/
theorem listsAndRangesAreKept : Obligations.ListsAndRangesAreKept := fun _ _ h =>
  ⟨step_keep (fun _ _ => profileRanges_act) (fun _ _ hs => hs) h, pendingLists_step h,
    step_keep (fun _ _ ha => quality_inv.act ha fun _ _ _ _ => qualityRange_zero) (fun _ _ hs => hs) h⟩

end Sys2Proof.Proofs
end

section
/-! SUPPORT. The correlators: which one holds a channel's survey, which one is idle, and what the arbiter leaves (R143, R146,
R147). A correlator that is freed while none is idle passes to the oldest queued survey and the arbiter stops there. -/

namespace Sys2Proof.Proofs
open Sys2Proof.Machine Sys2Proof.Safety Sys2Proof.Laws

/-! ### Lookups -/

theorem mem_correlatorIds (i : Fin 4) : i ∈ correlatorIds := by
  revert i
  decide

theorem holds_unitOf {d : Dsu} {c : ChanId} {i : Fin 4} (h : d.unitOf c = some i) :
    ∃ k, d.unit i = some k ∧ k.entry.channel = c := by
  have hi := List.find?_some h
  cases hk : d.unit i with
  | none => simp [hk] at hi
  | some k => exact ⟨k, rfl, by simpa [hk] using hi⟩

theorem unitOf_eq_none {d : Dsu} {c : ChanId} :
    d.unitOf c = none ↔ ∀ i k, d.unit i = some k → k.entry.channel ≠ c := by
  unfold Dsu.unitOf
  rw [List.find?_eq_none]
  constructor
  · intro h i k hk hc
    exact h i (mem_correlatorIds i) (by simp [hk, hc])
  · intro h i _
    cases hk : d.unit i with
    | none => simp
    | some k => simpa using h i k hk

/-- The correlator that holds a channel's survey is the one found for it (R143). -/
theorem unitOf_holds {s : State} (hs : SurveyUnits s) {i : Fin 4} {k : Correlator} (hk : s.dsu.unit i = some k) :
    s.dsu.unitOf k.entry.channel = some i := by
  cases h : s.dsu.unitOf k.entry.channel with
  | none => exact absurd rfl (unitOf_eq_none.1 h i k hk)
  | some j =>
    obtain ⟨l, hl, hc⟩ := holds_unitOf h
    rw [hs.unitOnce j i l k hl hk hc]

theorem idle_idleUnit {d : Dsu} {i : Fin 4} (h : d.idleUnit = some i) : d.unit i = none := by
  simpa using List.find?_some h

theorem idleUnit_eq_none {d : Dsu} : d.idleUnit = none ↔ ∀ i, d.unit i ≠ none := by
  unfold Dsu.idleUnit
  rw [List.find?_eq_none]
  constructor
  · intro h i hi
    exact h i (mem_correlatorIds i) (by simp [hi])
  · intro h i _
    simpa [Option.isNone_iff_eq_none] using h i

/-- The one idle correlator is the one found. -/
theorem idleUnit_only {d : Dsu} {i : Fin 4} (hi : d.unit i = none) (h : ∀ j, j ≠ i → d.unit j ≠ none) :
    d.idleUnit = some i := by
  cases hd : d.idleUnit with
  | none => exact absurd hi (idleUnit_eq_none.1 hd i)
  | some j => rw [not_imp_not.1 (h j) (idle_idleUnit hd)]

theorem unit_setUnit (s : State) (i j : Fin 4) (k : Option Correlator) :
    (s.setUnit i k).dsu.unit j = if j = i then k else s.dsu.unit j := by
  split
  · next h => rw [h, State.setUnit_unit_same]
  · next h => rw [State.setUnit_unit_ne _ _ _ _ h]

/-! ### Grants -/

theorem grant_unit (s : State) (i j : Fin 4) (e : SurveyEntry) :
    (s.grant i e).dsu.unit j = if j = i then some (grantedCorrelator e) else s.dsu.unit j := unit_setUnit s i j _

/-- The context of a channel whose survey is granted a correlator (R17, R147). -/
def grantedChannel (e : SurveyEntry) (ch : Channel) : Channel :=
  { ch with
    survey := .running
    tx := { ch.tx with probe := if e.probe then BitVec.allOnes 15 else ch.tx.probe } }

/-- The survey at the head of the queue leaves it and is granted a correlator. -/
def grantHead (s : State) (i : Fin 4) (e : SurveyEntry) (rest : List SurveyEntry) : State :=
  State.grant { s with dsu := { s.dsu with queue := rest } } i e

theorem grantHead_unit (s : State) (i j : Fin 4) (e : SurveyEntry) (rest : List SurveyEntry) :
    (grantHead s i e rest).dsu.unit j = if j = i then some (grantedCorrelator e) else s.dsu.unit j :=
  grant_unit _ i j e

theorem grantHead_ch (s : State) (i : Fin 4) (e : SurveyEntry) (rest : List SurveyEntry) (d : ChanId) :
    (grantHead s i e rest).ch d = if d = e.channel then grantedChannel e (s.ch e.channel) else s.ch d := ch_setCh _ _ _ _

theorem grantHead_eq (s : State) (i : Fin 4) (e : SurveyEntry) (rest : List SurveyEntry) :
    grantHead s i e rest
      = (State.setUnit { s with dsu := { s.dsu with queue := rest } } i (some (grantedCorrelator e))).setCh e.channel
          (grantedChannel e (s.ch e.channel)) := rfl

theorem grantUpTo_head {s : State} {e : SurveyEntry} {rest : List SurveyEntry} {i : Fin 4} (n : Nat)
    (hq : s.dsu.queue = e :: rest) (hi : s.dsu.idleUnit = some i) :
    s.grantUpTo (n + 1) = (grantHead s i e rest).grantUpTo n := by
  rw [State.grantUpTo, hq, hi]
  rfl

theorem grantUpTo_of_noIdle {s : State} (h : NoIdleCorrelator s) (n : Nat) : s.grantUpTo n = s := by
  cases n with
  | zero => rfl
  | succ n =>
    rw [State.grantUpTo]
    obtain h | h := h
    · rw [h]
    · rw [h]
      cases s.dsu.queue <;> rfl

/-- What holds through each grant holds after the arbiter has run. -/
theorem grantUpTo_keeps {P : State → Prop} (n : Nat)
    (h : ∀ s e rest i, s.dsu.queue = e :: rest → s.dsu.unit i = none → P s → P (grantHead s i e rest)) {s : State}
    (hs : P s) : P (s.grantUpTo n) := by
  induction n generalizing s with
  | zero => exact hs
  | succ n ih =>
    cases hq : s.dsu.queue with
    | nil => rwa [grantUpTo_of_noIdle (.inl hq)]
    | cons e rest =>
      cases hi : s.dsu.idleUnit with
      | none => rwa [grantUpTo_of_noIdle (.inr hi)]
      | some i =>
        rw [grantUpTo_head n hq hi]
        exact ih (h s e rest i hq (idle_idleUnit hi) hs)

/-- The correlators that are idle. -/
def idleUnits (d : Dsu) : Finset (Fin 4) := Finset.univ.filter fun i => (d.unit i).isNone

theorem idleUnits_grantHead (s : State) (i : Fin 4) (e : SurveyEntry) (rest : List SurveyEntry) :
    idleUnits (grantHead s i e rest).dsu = (idleUnits s.dsu).erase i := by
  ext j
  simp only [idleUnits, Finset.mem_filter, Finset.mem_univ, true_and, Finset.mem_erase, grantHead_unit]
  split <;> simp_all

/-- A run long enough for the idle correlators leaves none idle while a survey waits (R146). -/
theorem noIdle_grantUpTo (n : Nat) {s : State} (h : (idleUnits s.dsu).card ≤ n) : NoIdleCorrelator (s.grantUpTo n) := by
  induction n generalizing s with
  | zero =>
    have hnone : s.dsu.idleUnit = none := by
      refine idleUnit_eq_none.2 fun i hi => ?_
      have : i ∈ idleUnits s.dsu := by simp [idleUnits, hi]
      simp_all
    exact .inr hnone
  | succ n ih =>
    cases hq : s.dsu.queue with
    | nil => rw [grantUpTo_of_noIdle (.inl hq)]; exact .inl hq
    | cons e rest =>
      cases hi : s.dsu.idleUnit with
      | none => rw [grantUpTo_of_noIdle (.inr hi)]; exact .inr hi
      | some i =>
        rw [grantUpTo_head n hq hi]
        refine ih ?_
        have hmem : i ∈ idleUnits s.dsu := by simp [idleUnits, idle_idleUnit hi]
        rw [idleUnits_grantHead, Finset.card_erase_of_mem hmem]
        omega

theorem noIdle_runArbiter (s : State) : NoIdleCorrelator s.runArbiter :=
  noIdle_grantUpTo 4 ((Finset.card_le_univ _).trans_eq rfl)

/-- A correlator freed while none is idle passes to the oldest queued survey, and the arbiter stops there (R146). -/
theorem runArbiter_freed {s : State} (i : Fin 4) (hs : NoIdleCorrelator s) :
    (s.setUnit i none).runArbiter = passedOn s i := by
  unfold passedOn State.runArbiter
  cases hq : s.dsu.queue with
  | nil => exact grantUpTo_of_noIdle (s := s.setUnit i none) (.inl hq) 4
  | cons e rest =>
    have hbusy : ∀ j, s.dsu.unit j ≠ none := by
      obtain h | h := hs
      · rw [hq] at h
        cases h
      · exact idleUnit_eq_none.1 h
    have hidle : (s.setUnit i none).dsu.idleUnit = some i := by
      refine idleUnit_only (by simp) fun j hj => ?_
      rw [State.setUnit_unit_ne _ _ _ _ hj]
      exact hbusy j
    have hstop : NoIdleCorrelator (grantHead (s.setUnit i none) i e rest) := by
      refine .inr (idleUnit_eq_none.2 fun j => ?_)
      rw [grantHead_unit, unit_setUnit]
      split
      · nofun
      · exact hbusy j
    rw [grantUpTo_head 3 (s := s.setUnit i none) hq hidle, grantUpTo_of_noIdle hstop]
    simp [grantHead, State.grant, State.setUnit, State.modCh, State.setCh, State.ch, grantedCorrelator]

/-! ### A channel that is in no queue -/

theorem setCh_comm (s : State) {c d : ChanId} (x y : Channel) (h : c ≠ d) :
    (s.setCh c x).setCh d y = (s.setCh d y).setCh c x := by
  have hv : c.val ≠ d.val := fun e => h (Fin.ext e)
  simp only [State.setCh]
  rw [Vector.set_comm x y hv]

theorem grantHead_setCh (s : State) {c : ChanId} (x : Channel) (i : Fin 4) {e : SurveyEntry} (rest : List SurveyEntry)
    (h : e.channel ≠ c) : grantHead (s.setCh c x) i e rest = (grantHead s i e rest).setCh c x := by
  have hch : (s.setCh c x).ch e.channel = s.ch e.channel := by simp [h]
  rw [grantHead_eq, grantHead_eq, hch, ← setCh_comm _ _ _ h.symm]
  rfl

/-- The arbiter does not see the context of a channel that is not queued. -/
theorem grantUpTo_setCh (n : Nat) (s : State) {c : ChanId} (x : Channel) (h : ∀ e ∈ s.dsu.queue, e.channel ≠ c) :
    (s.setCh c x).grantUpTo n = (s.grantUpTo n).setCh c x := by
  induction n generalizing s with
  | zero => rfl
  | succ n ih =>
    cases hq : s.dsu.queue with
    | nil =>
      rw [grantUpTo_of_noIdle (.inl hq), grantUpTo_of_noIdle (.inl (show (s.setCh c x).dsu.queue = [] from hq))]
    | cons e rest =>
      rw [hq] at h
      cases hi : s.dsu.idleUnit with
      | none =>
        rw [grantUpTo_of_noIdle (.inr hi),
          grantUpTo_of_noIdle (.inr (show (s.setCh c x).dsu.idleUnit = none from hi))]
      | some i =>
        rw [grantUpTo_head n hq hi, grantUpTo_head n (s := s.setCh c x) hq hi,
          grantHead_setCh s x i rest (h e (.head _))]
        exact ih _ fun e he => h e (.tail _ he)

theorem grantUpTo_ch_same (n : Nat) (s : State) {c : ChanId} (h : ∀ e ∈ s.dsu.queue, e.channel ≠ c) :
    (s.grantUpTo n).ch c = s.ch c := by
  have hself := grantUpTo_setCh n s (s.ch c) h
  rw [State.setCh_ch_self] at hself
  rw [hself, State.setCh_ch_same]

end Sys2Proof.Proofs
end

section
/-! PROOF. The survey queue and the correlators (R143, R144, R146, R148, R153). An act either moves no survey, or queues one,
or removes one channel's, and then the arbiter runs; each grant keeps the rules. -/

namespace Sys2Proof.Proofs
open Sys2Proof.Machine Sys2Proof.Safety Sys2Proof.Laws

/-! ### Moves that keep the rules -/

/-- The rules read the survey unit and each channel's survey state, profile and, while it has a survey, its state. -/
theorem surveyUnits_congr {s t : State} (hs : SurveyUnits s) (hd : t.dsu = s.dsu)
    (hv : ∀ c, (t.ch c).survey = (s.ch c).survey)
    (hl : ∀ c, (s.ch c).survey ≠ .noSurvey →
      (t.ch c).params = (s.ch c).params ∧ ((s.ch c).state = .opened → (t.ch c).state = .opened)) : SurveyUnits t where
  queued c := by rw [hv, hd]; exact hs.queued c
  running c := by rw [hv, hd]; exact hs.running c
  queueOnce := by rw [hd]; exact hs.queueOnce
  unitOnce := by rw [hd]; exact hs.unitOnce
  opened c h := by rw [hv] at h; exact (hl c h).2 (hs.opened c h)
  queueLags e he := by
    rw [hd] at he
    rw [(hl e.channel (by rw [(hs.queued e.channel).2 ⟨e, he, rfl⟩]; nofun)).1]
    exact hs.queueLags e he
  unitLags i k hk := by
    rw [hd] at hk
    rw [(hl k.entry.channel (by rw [(hs.running k.entry.channel).2 ⟨i, k, hk, rfl⟩]; nofun)).1]
    exact hs.unitLags i k hk
  unitOk := by rw [hd]; exact hs.unitOk

/-- A correlator that keeps its survey. -/
def SameSurvey (d e : Dsu) : Prop :=
  e.queue = d.queue ∧ ∀ i, ∃ f : Correlator → Correlator, e.unit i = (d.unit i).map f
    ∧ ∀ k, d.unit i = some k → (f k).entry = k.entry ∧ (UnitOk k → UnitOk (f k))

/-- Counting and restarting keep the rules. -/
theorem surveyUnits_sameSurvey {s t : State} (hs : SurveyUnits s) (hch : ∀ c, t.ch c = s.ch c)
    (h : SameSurvey s.dsu t.dsu) : SurveyUnits t := by
  obtain ⟨hq, hu⟩ := h
  have back : ∀ i l, t.dsu.unit i = some l → ∃ k, s.dsu.unit i = some k ∧ l.entry = k.entry ∧ UnitOk l := by
    intro i l hl
    obtain ⟨f, hf, hk⟩ := hu i
    rw [hf, Option.map_eq_some_iff] at hl
    obtain ⟨k, hsk, rfl⟩ := hl
    exact ⟨k, hsk, (hk k hsk).1, (hk k hsk).2 (hs.unitOk i k hsk)⟩
  have forth : ∀ i k, s.dsu.unit i = some k → ∃ l, t.dsu.unit i = some l ∧ l.entry = k.entry := by
    intro i k hsk
    obtain ⟨f, hf, hk⟩ := hu i
    exact ⟨f k, by rw [hf, hsk]; rfl, (hk k hsk).1⟩
  refine ⟨?_, fun c => ?_, ?_, ?_, ?_, ?_, ?_, ?_⟩
  · simp only [hch, hq]
    exact hs.queued
  · rw [hch, hs.running c]
    constructor
    · rintro ⟨i, k, hk, hc⟩
      obtain ⟨l, hl, he⟩ := forth i k hk
      exact ⟨i, l, hl, he ▸ hc⟩
    · rintro ⟨i, l, hl, hc⟩
      obtain ⟨k, hk, he, -⟩ := back i l hl
      exact ⟨i, k, hk, he ▸ hc⟩
  · rw [hq]
    exact hs.queueOnce
  · intro i j k l hk hl hc
    obtain ⟨k', hk', hek, -⟩ := back i k hk
    obtain ⟨l', hl', hel, -⟩ := back j l hl
    exact hs.unitOnce i j k' l' hk' hl' (by rw [← hek, ← hel, hc])
  · simp only [hch]
    exact hs.opened
  · simp only [hch, hq]
    exact hs.queueLags
  · intro i l hl
    obtain ⟨k, hk, he, -⟩ := back i l hl
    rw [hch, he]
    exact hs.unitLags i k hk
  · intro i l hl
    obtain ⟨k, -, -, hok⟩ := back i l hl
    exact hok

theorem unitOk_granted (e : SurveyEntry) : UnitOk (grantedCorrelator e) := by
  refine ⟨List.length_replicate, by simp [grantedCorrelator], by simp [grantedCorrelator], by simp [grantedCorrelator], ?_⟩
  intro hp
  cases he : e.probe with
  | true => exact ⟨he, by simp [grantedCorrelator]⟩
  | false => simp [grantedCorrelator, he] at hp

/-- A grant keeps the rules (R146, R147). -/
theorem surveyUnits_grantHead {s : State} {e : SurveyEntry} {rest : List SurveyEntry} {i : Fin 4}
    (hq : s.dsu.queue = e :: rest) (hi : s.dsu.unit i = none) (hs : SurveyUnits s) : SurveyUnits (grantHead s i e rest) := by
  have honce := hs.queueOnce
  rw [hq, List.map_cons, List.nodup_cons] at honce
  have hlags : LagsFit (s.ch e.channel).params.maxDelay e := hs.queueLags e (hq ▸ .head _)
  have hwait : (s.ch e.channel).survey = .queued := (hs.queued e.channel).2 ⟨e, hq ▸ .head _, rfl⟩
  have hnotrun : ∀ j k, s.dsu.unit j = some k → k.entry.channel ≠ e.channel := fun j k hk hc => by
    have hrun := (hs.running e.channel).2 ⟨j, k, hk, hc⟩
    rw [hwait] at hrun
    cases hrun
  have hparams : ∀ d, ((grantHead s i e rest).ch d).params = (s.ch d).params := fun d => by
    rw [grantHead_ch]
    split
    · next h => rw [h]; rfl
    · rfl
  have hunit : ∀ j l, (grantHead s i e rest).dsu.unit j = some l →
      (j = i ∧ l = grantedCorrelator e) ∨ (j ≠ i ∧ s.dsu.unit j = some l) := fun j l h => by
    rw [grantHead_unit] at h
    split at h
    · next hj => exact .inl ⟨hj, (Option.some.inj h).symm⟩
    · next hj => exact .inr ⟨hj, h⟩
  refine ⟨fun c => ?_, fun c => ?_, honce.2, ?_, fun c => ?_, ?_, ?_, ?_⟩
  · rw [grantHead_ch]
    split
    · next hc =>
      refine ⟨nofun, fun ⟨e', he', hce⟩ => ?_⟩
      exact absurd (List.mem_map.2 ⟨e', he', hce.trans hc⟩) honce.1
    · next hc =>
      rw [hs.queued c, hq]
      exact ⟨fun ⟨e', he', hce⟩ => ⟨e', (List.mem_cons.1 he').resolve_left fun h => hc (by rw [← hce, h]), hce⟩,
        fun ⟨e', he', hce⟩ => ⟨e', .tail _ he', hce⟩⟩
  · rw [grantHead_ch]
    split
    · next hc => exact ⟨fun _ => ⟨i, grantedCorrelator e, by rw [grantHead_unit, if_pos rfl], hc.symm⟩, fun _ => rfl⟩
    · next hc =>
      rw [hs.running c]
      constructor
      · rintro ⟨j, k, hk, hkc⟩
        have hj : j ≠ i := fun h => by rw [h, hi] at hk; cases hk
        exact ⟨j, k, by rw [grantHead_unit, if_neg hj, hk], hkc⟩
      · rintro ⟨j, l, hl, hlc⟩
        obtain ⟨-, rfl⟩ | ⟨-, hl⟩ := hunit j l hl
        · exact absurd hlc.symm hc
        · exact ⟨j, l, hl, hlc⟩
  · intro a b k l hk hl hc
    obtain ⟨rfl, rfl⟩ | ⟨-, hk'⟩ := hunit a k hk
    · obtain ⟨rfl, rfl⟩ | ⟨-, hl⟩ := hunit b l hl
      · rfl
      · exact absurd hc.symm (hnotrun b l hl)
    · obtain ⟨rfl, rfl⟩ | ⟨-, hl⟩ := hunit b l hl
      · exact absurd hc (hnotrun a k hk')
      · exact hs.unitOnce a b k l hk' hl hc
  · rw [grantHead_ch]
    split
    · exact fun _ => hs.opened e.channel (by rw [hwait]; nofun)
    · exact hs.opened c
  · intro e' he'
    rw [hparams]
    exact hs.queueLags e' (hq ▸ .tail _ he')
  · intro j l hl
    rw [hparams]
    obtain ⟨-, rfl⟩ | ⟨-, hl⟩ := hunit j l hl
    · exact hlags
    · exact hs.unitLags j l hl
  · intro j l hl
    obtain ⟨-, rfl⟩ | ⟨-, hl⟩ := hunit j l hl
    · exact unitOk_granted e
    · exact hs.unitOk j l hl

theorem surveyUnits_grantUpTo (n : Nat) {s : State} (hs : SurveyUnits s) : SurveyUnits (s.grantUpTo n) :=
  grantUpTo_keeps n (fun _ _ _ _ hq hi => surveyUnits_grantHead hq hi) hs

/-- A channel's survey is gone from the queue and from the correlators, and all else of the survey unit stands. -/
structure Vacated (c : ChanId) (s t : State) : Prop where
  queue : t.dsu.queue = dropEntry c s.dsu.queue
  stays : ∀ i k, s.dsu.unit i = some k → k.entry.channel ≠ c → t.dsu.unit i = some k
  kept : ∀ i k, t.dsu.unit i = some k → s.dsu.unit i = some k ∧ k.entry.channel ≠ c
  none : (t.ch c).survey = .noSurvey
  others : ∀ d, d ≠ c → t.ch d = s.ch d

theorem mem_dropEntry {c : ChanId} {q : List SurveyEntry} {e : SurveyEntry} :
    e ∈ dropEntry c q ↔ e ∈ q ∧ e.channel ≠ c := by
  simp [dropEntry]

theorem dropEntry_of_forall {c : ChanId} {q : List SurveyEntry} (h : ∀ e ∈ q, e.channel ≠ c) : dropEntry c q = q :=
  List.filter_eq_self.2 fun e he => by simpa using h e he

/-- Removing a channel's survey keeps the rules (R155, R158). -/
theorem surveyUnits_vacated {c : ChanId} {s t : State} (hs : SurveyUnits s) (h : Vacated c s t) : SurveyUnits t where
  queued d := by
    rw [h.queue]
    by_cases hd : d = c
    · subst hd
      rw [h.none]
      exact ⟨nofun, fun ⟨e, he, hec⟩ => absurd hec (mem_dropEntry.1 he).2⟩
    · rw [h.others d hd, hs.queued d]
      exact exists_congr fun e =>
        ⟨fun ⟨he, hed⟩ => ⟨mem_dropEntry.2 ⟨he, hed ▸ hd⟩, hed⟩, fun ⟨he, hed⟩ => ⟨(mem_dropEntry.1 he).1, hed⟩⟩
  running d := by
    by_cases hd : d = c
    · subst hd
      rw [h.none]
      exact ⟨nofun, fun ⟨i, k, hk, hkc⟩ => absurd hkc (h.kept i k hk).2⟩
    · rw [h.others d hd, hs.running d]
      exact exists_congr fun i => exists_congr fun k =>
        ⟨fun ⟨hk, hkd⟩ => ⟨h.stays i k hk (hkd ▸ hd), hkd⟩, fun ⟨hk, hkd⟩ => ⟨(h.kept i k hk).1, hkd⟩⟩
  queueOnce := by
    rw [h.queue]
    exact hs.queueOnce.sublist (List.filter_sublist.map _)
  unitOnce i j k l hk hl := hs.unitOnce i j k l (h.kept i k hk).1 (h.kept j l hl).1
  opened d := by
    by_cases hd : d = c
    · subst hd
      exact fun hv => absurd h.none hv
    · rw [h.others d hd]
      exact hs.opened d
  queueLags e he := by
    rw [h.queue, mem_dropEntry] at he
    rw [h.others _ he.2]
    exact hs.queueLags e he.1
  unitLags i k hk := by
    rw [h.others _ (h.kept i k hk).2]
    exact hs.unitLags i k (h.kept i k hk).1
  unitOk i k hk := hs.unitOk i k (h.kept i k hk).1

/-- A survey that joins the queue's tail keeps the rules (R145). -/
theorem surveyUnits_queued {s : State} {e : SurveyEntry} (hs : SurveyUnits s) (ho : (s.ch e.channel).state = .opened)
    (hn : (s.ch e.channel).survey = .noSurvey) (hl : LagsFit (s.ch e.channel).params.maxDelay e) :
    SurveyUnits (State.modCh { s with dsu := { s.dsu with queue := s.dsu.queue ++ [e] } } e.channel
      fun ch => { ch with survey := .queued }) := by
  have hout : ∀ e' ∈ s.dsu.queue, e'.channel ≠ e.channel := fun e' he' hc => by
    have hq := (hs.queued e.channel).2 ⟨e', he', hc⟩
    rw [hn] at hq
    cases hq
  have hch : ∀ d, (State.modCh { s with dsu := { s.dsu with queue := s.dsu.queue ++ [e] } } e.channel
      fun ch => { ch with survey := .queued }).ch d
      = if d = e.channel then { s.ch e.channel with survey := .queued } else s.ch d := fun d => ch_setCh _ _ _ _
  have hparams : ∀ d, ((State.modCh { s with dsu := { s.dsu with queue := s.dsu.queue ++ [e] } } e.channel
      fun ch => { ch with survey := .queued }).ch d).params = (s.ch d).params := fun d => by
    rw [hch]
    split
    · next h => rw [h]
    · rfl
  refine ⟨fun c => ?_, fun c => ?_, ?_, hs.unitOnce, fun c => ?_, ?_, ?_, hs.unitOk⟩
  · change _ ↔ ∃ e' ∈ s.dsu.queue ++ [e], e'.channel = c
    rw [hch]
    split
    · next hc => exact ⟨fun _ => ⟨e, List.mem_append_right _ (.head _), hc.symm⟩, fun _ => rfl⟩
    · next hc =>
      rw [hs.queued c]
      refine exists_congr fun e' => and_congr_left fun hec => ?_
      rw [List.mem_append, List.mem_singleton]
      exact ⟨.inl, fun h => h.resolve_right fun h => hc (by rw [← hec, h])⟩
  · rw [hch]
    split
    · next hc =>
      refine ⟨nofun, fun hr => ?_⟩
      have hrun := (hs.running e.channel).2 (hc ▸ hr)
      rw [hn] at hrun
      cases hrun
    · exact hs.running c
  · change ((s.dsu.queue ++ [e]).map _).Nodup
    rw [List.map_append, List.nodup_append]
    refine ⟨hs.queueOnce, List.nodup_singleton _, ?_⟩
    intro a ha b hb
    obtain ⟨e', he', rfl⟩ := List.mem_map.1 ha
    rw [List.map_singleton, List.mem_singleton] at hb
    exact hb ▸ hout e' he'
  · rw [hch]
    split
    · exact fun _ => ho
    · exact hs.opened c
  · intro e' he'
    rw [hparams]
    obtain he' | he' := List.mem_append.1 he'
    · exact hs.queueLags e' he'
    · exact List.mem_singleton.1 he' ▸ hl
  · intro i k hk
    rw [hparams]
    exact hs.unitLags i k hk

/-- Nothing is surveyed after RESET and power-up (R143). -/
theorem surveyUnits_idle {s : State} (hd : s.dsu = ⟨[], Vector.replicate 4 none⟩)
    (hc : ∀ c, (s.ch c).survey = .noSurvey) : SurveyUnits s := by
  have hq : s.dsu.queue = [] := by rw [hd]
  have hu : ∀ i k, s.dsu.unit i ≠ some k := fun i k => by simp [hd, Dsu.unit]
  refine ⟨fun c => ?_, fun c => ?_, by rw [hq]; exact .nil, fun i _ k _ hk => absurd hk (hu i k),
    fun c h => absurd (hc c) h, fun e he => ?_, fun i k hk => absurd hk (hu i k), fun i k hk => absurd hk (hu i k)⟩
  · rw [hc, hq]
    simp
  · rw [hc]
    exact ⟨nofun, fun ⟨i, k, hk, _⟩ => absurd hk (hu i k)⟩
  · rw [hq] at he
    cases he

/-! ### The ends of a survey -/

theorem recordSurvey_ch (s : State) (c d : ChanId) (r : SurveyRecord) :
    (s.recordSurvey c r).ch d = if d = c then
      { s.ch c with
        survey := .noSurvey
        lastResult := some r
        counters := { (s.ch c).counters with surveysDone := (s.ch c).counters.surveysDone + 1 } }
      else s.ch d := ch_setCh s c d _

/-- A survey's entry in the queue and its correlator exclude each other. -/
theorem queue_ne_of_unit {s : State} (hs : SurveyUnits s) {i : Fin 4} {k : Correlator} (hk : s.dsu.unit i = some k) :
    ∀ e ∈ s.dsu.queue, e.channel ≠ k.entry.channel := fun e he hc => by
  have hrun := (hs.running k.entry.channel).2 ⟨i, k, hk, rfl⟩
  rw [(hs.queued k.entry.channel).2 ⟨e, he, hc⟩] at hrun
  cases hrun

theorem vacated_endRunning {s : State} (hs : SurveyUnits s) {c : ChanId} {i : Fin 4} (hu : s.dsu.unitOf c = some i)
    (r : SurveyRecord) : Vacated c s ((s.recordSurvey c r).setUnit i none) := by
  obtain ⟨k, hk, rfl⟩ := holds_unitOf hu
  refine ⟨(dropEntry_of_forall (queue_ne_of_unit hs hk)).symm, ?_, ?_, ?_, ?_⟩
  · intro j l hl hne
    have hj : j ≠ i := fun h => hne (by rw [h, hk] at hl; cases hl; rfl)
    rw [State.setUnit_unit_ne _ _ _ _ hj]
    exact hl
  · intro j l hl
    rw [unit_setUnit] at hl
    split at hl
    · cases hl
    · next hj => exact ⟨hl, fun hc => hj (hs.unitOnce j i l k hl hk hc)⟩
  · rw [State.setUnit_ch, recordSurvey_ch, if_pos rfl]
  · intro d hd
    rw [State.setUnit_ch, recordSurvey_ch, if_neg hd]

/-- A channel's entry and its correlator are given back, and the arbiter runs where there was one (R146, R155). -/
theorem withdrawSurvey_eq (s : State) (c : ChanId) :
    s.withdrawSurvey c = match s.dsu.unitOf c with
      | Option.none => s.unqueue c
      | some i => ((s.unqueue c).setUnit i Option.none).runArbiter := rfl

/-- A channel without a survey state whose entry and correlator are given back is out of the survey unit. -/
theorem vacated_unqueue {s t : State} {c : ChanId} (hu : s.dsu.unitOf c = Option.none) (hd : t.dsu = s.dsu)
    (hn : (t.ch c).survey = .noSurvey) (ho : ∀ d, d ≠ c → t.ch d = s.ch d) : Vacated c s (t.unqueue c) where
  queue := by rw [State.unqueue, hd]
  stays i k hk _ := by
    rw [← hd] at hk
    exact hk
  kept i k hk := by
    have hk' : s.dsu.unit i = some k := by rw [← hd]; exact hk
    exact ⟨hk', unitOf_eq_none.1 hu i k hk'⟩
  none := hn
  others d h := ho d h

theorem vacated_freed {s t : State} (hs : SurveyUnits s) {c : ChanId} {i : Fin 4} (hu : s.dsu.unitOf c = some i)
    (hd : t.dsu = s.dsu) (hn : (t.ch c).survey = .noSurvey) (ho : ∀ d, d ≠ c → t.ch d = s.ch d) :
    Vacated c s ((t.unqueue c).setUnit i Option.none) := by
  obtain ⟨k, hk, hkc⟩ := holds_unitOf hu
  have hunit : ∀ j, (t.unqueue c).dsu.unit j = s.dsu.unit j := fun j => by rw [← hd]; rfl
  refine ⟨?_, ?_, ?_, hn, ho⟩
  · rw [State.setUnit_queue, State.unqueue, hd]
  · intro j l hl hne
    have hj : j ≠ i := fun h => hne (by rw [h, hk] at hl; cases hl; exact hkc)
    rw [State.setUnit_unit_ne _ _ _ _ hj, hunit, hl]
  · intro j l hl
    rw [unit_setUnit] at hl
    split at hl
    · cases hl
    · next hj =>
      rw [hunit] at hl
      exact ⟨hl, fun hc => hj (hs.unitOnce j i l k hl hk (hc.trans hkc.symm))⟩

/-- Withdrawing the survey of a channel whose survey state is already NONE keeps the rules; `t` is the state after the
survey state was set. -/
theorem surveyUnits_withdraw {s t : State} {c : ChanId} (hs : SurveyUnits s) (hd : t.dsu = s.dsu)
    (hn : (t.ch c).survey = .noSurvey) (ho : ∀ d, d ≠ c → t.ch d = s.ch d) : SurveyUnits (t.withdrawSurvey c) := by
  rw [withdrawSurvey_eq, hd]
  cases hu : s.dsu.unitOf c with
  | none => exact surveyUnits_vacated hs (vacated_unqueue hu hd hn ho)
  | some i => exact surveyUnits_grantUpTo 4 (surveyUnits_vacated hs (vacated_freed hs hu hd hn ho))

theorem noIdle_withdraw {s : State} (c : ChanId) (hs : NoIdleCorrelator s) : NoIdleCorrelator (s.withdrawSurvey c) := by
  rw [withdrawSurvey_eq]
  cases hu : s.dsu.unitOf c with
  | none =>
    obtain h | h := hs
    · exact .inl (by simp [State.unqueue, h, dropEntry])
    · exact .inr h
  | some i => exact noIdle_runArbiter _

theorem survey_withdrawSurvey (s : State) (c : ChanId) : ((s.withdrawSurvey c).ch c) = s.ch c := by
  have hout : ∀ e ∈ dropEntry c s.dsu.queue, e.channel ≠ c := fun e he => (mem_dropEntry.1 he).2
  rw [withdrawSurvey_eq]
  split
  · rfl
  · exact grantUpTo_ch_same 4 _ hout

/-- A channel without a record to cancel has no survey (R155). -/
theorem noSurvey_of_cancelRecord {s : State} {c : ChanId} (hs : SurveyUnits s) (h : cancelRecord s c = none) :
    (s.ch c).survey = .noSurvey := by
  unfold cancelRecord at h
  cases hv : (s.ch c).survey with
  | noSurvey => rfl
  | queued =>
    rw [hv, Option.map_eq_none_iff, List.find?_eq_none] at h
    obtain ⟨e, he, hc⟩ := (hs.queued c).1 hv
    exact absurd hc (by simpa using h e he)
  | running =>
    obtain ⟨i, k, hk, rfl⟩ := (hs.running c).1 hv
    rw [hv, unitOf_holds hs hk] at h
    simp [hk] at h

theorem surveyUnits_cancelSurvey {s : State} (c : ChanId) (hs : SurveyUnits s) : SurveyUnits (s.cancelSurvey c) := by
  unfold State.cancelSurvey
  split
  · exact hs
  · exact surveyUnits_withdraw hs rfl (by rw [recordSurvey_ch, if_pos rfl]) fun d hd => by
      rw [recordSurvey_ch, if_neg hd]

theorem noIdle_cancelSurvey {s : State} (c : ChanId) (hs : NoIdleCorrelator s) : NoIdleCorrelator (s.cancelSurvey c) := by
  unfold State.cancelSurvey
  split
  · exact hs
  · exact noIdle_withdraw c (s := s.recordSurvey c _) hs

theorem noSurvey_cancelSurvey {s : State} (c : ChanId) (hs : SurveyUnits s) : ((s.cancelSurvey c).ch c).survey = .noSurvey := by
  unfold State.cancelSurvey
  split
  · next h => exact noSurvey_of_cancelRecord hs h
  · rw [survey_withdrawSurvey, recordSurvey_ch, if_pos rfl]

/-- To the survey unit a RELEASE is the withdrawal of the survey of a channel that is blank already (R54, R158). -/
theorem release_withdrawn (s : State) (c : ChanId) :
    (s.release c).dsu = ((s.setCh c (Channel.blank (s.ch c).counters)).withdrawSurvey c).dsu
      ∧ (s.release c).channels = ((s.setCh c (Channel.blank (s.ch c).counters)).withdrawSurvey c).channels := by
  have hout : ∀ e ∈ dropEntry c s.dsu.queue, e.channel ≠ c := fun e he => (mem_dropEntry.1 he).2
  have hcomm : (s.setCh c (Channel.blank (s.ch c).counters)).withdrawSurvey c
      = (s.withdrawSurvey c).setCh c (Channel.blank (s.ch c).counters) := by
    rw [withdrawSurvey_eq, withdrawSurvey_eq]
    change (match s.dsu.unitOf c with | none => _ | some i => _) = _
    cases s.dsu.unitOf c with
    | none => rfl
    | some i =>
      exact grantUpTo_setCh 4 ((s.unqueue c).setUnit i none) (Channel.blank (s.ch c).counters) hout
  have hunmap : ∀ u : State, (u.unmap c).dsu = u.dsu ∧ (u.unmap c).channels = u.channels := fun u => by
    unfold State.unmap
    split <;> exact ⟨rfl, rfl⟩
  rw [hcomm]
  refine ⟨(hunmap (s.withdrawSurvey c)).1, ?_⟩
  change ((s.withdrawSurvey c).unmap c).channels.set _ _ = (s.withdrawSurvey c).channels.set _ _
  rw [(hunmap _).2]

/-! ### Every act -/

/-- Only the end of a drain moves a state between OPEN, DRAINING and HALTED, among the steps of one context. -/
theorem opened_step {x y : Channel} (h : ChanStep x y) (ho : x.state = .opened) : y.state = .opened := by
  cases h with
  | halt h => rw [ho] at h; cases h
  | transmit b => exact (chooseSample_frame x b).1.trans ho
  | receive rx => unfold receiveStage; split <;> exact ho
  | update u r => unfold echoUpdate; split <;> exact ho
  | expire => exact (expiredTraining_place x).state.trans ho
  | diverge => unfold divergedChannel; dsimp only; split <;> exact ho
  | matched seq erase refs =>
    obtain ⟨_, _, _, _, _, -, -, -, -, heq⟩ := matchRef_frame x seq erase refs
    rw [heq]
    exact ho
  | taps set => cases set <;> exact ho
  | complete =>
    dsimp only
    unfold makeEntry
    repeat' split
    all_goals exact ho
  | append | countDown | extend | counters | apply | filter | strikes | arms | emptied | ended | drainTick
  | expireRefs | setEcho | setExt | delay | eqMode | cursor | checkpoint | restore => exact ho

theorem sameSurvey_setUnit {s : State} {i : Fin 4} {k k' : Correlator} (hk : s.dsu.unit i = some k)
    (he : k'.entry = k.entry) (hok : UnitOk k → UnitOk k') : SameSurvey s.dsu (s.setUnit i (some k')).dsu := by
  refine ⟨rfl, fun j => ?_⟩
  rw [unit_setUnit]
  by_cases hj : j = i
  · subst hj
    exact ⟨fun _ => k', by rw [if_pos rfl, hk]; rfl, fun l hl => by rw [hk] at hl; cases hl; exact ⟨he, hok⟩⟩
  · exact ⟨id, by rw [if_neg hj, Option.map_id, id], fun _ _ => ⟨rfl, id⟩⟩

theorem restartAtAcquisition_keeps (k : Correlator) :
    (restartAtAcquisition k).entry = k.entry ∧ (UnitOk k → UnitOk (restartAtAcquisition k)) := by
  unfold restartAtAcquisition
  cases hp : k.phase with
  | leadIn => exact ⟨rfl, id⟩
  | window => exact ⟨rfl, fun h => unitOk_restart h hp k.restarts h.2.2.2.1⟩

theorem sameSurvey_restart (s : State) : SameSurvey s.dsu s.restartSurveys.dsu :=
  ⟨State.restartSurveys_queue s, fun i => ⟨restartAtAcquisition, State.restartSurveys_unit s i,
    fun k _ => restartAtAcquisition_keeps k⟩⟩

theorem surveyUnits_release {s : State} (c : ChanId) (hs : SurveyUnits s) : SurveyUnits (s.release c) := by
  obtain ⟨hdsu, hch⟩ := release_withdrawn s c
  have hw : SurveyUnits ((s.setCh c (Channel.blank (s.ch c).counters)).withdrawSurvey c) :=
    surveyUnits_withdraw hs rfl (by rw [State.setCh_ch_same]; rfl) fun d hd => State.setCh_ch_ne _ _ _ _ hd
  have hchan : ∀ d, (s.release c).ch d = ((s.setCh c (Channel.blank (s.ch c).counters)).withdrawSurvey c).ch d := fun d => by
    rw [State.ch, hch]
    rfl
  exact surveyUnits_congr hw hdsu (fun d => by rw [hchan]) fun d _ => by rw [hchan]; exact ⟨rfl, id⟩

theorem surveyUnits_act {s t : State} (h : Act s t) (hs : SurveyUnits s) : SurveyUnits t := by
  have same : ∀ {t : State}, t.dsu = s.dsu → (∀ c, t.ch c = s.ch c) → SurveyUnits t := fun hd hc =>
    surveyUnits_congr hs hd (fun c => by rw [hc]) fun c _ => by rw [hc]; exact ⟨rfl, id⟩
  cases h with
  | highway | page | device | raised | link | lock | snapshot | choice => exact same rfl fun _ => rfl
  | profile k p _ => unfold State.setProfile; split <;> exact same rfl fun _ => rfl
  | chan c x hx =>
    obtain ⟨-, -, hparams, -, hsurvey⟩ := hx.frame
    refine surveyUnits_congr hs rfl (fun d => ?_) fun d _ => ?_ <;> rw [ch_setCh] <;> split
    · next hd => rw [hd, hsurvey]
    · rfl
    · next hd => exact hd ▸ ⟨hparams, opened_step hx⟩
    · exact ⟨rfl, id⟩
  | guarded =>
    refine surveyUnits_congr hs (by simp) (fun d => ?_) fun d _ => ?_ <;> rw [State.guardOpen_ch] <;> unfold guardIfOpen
    · split <;> rfl
    · split <;> exact ⟨rfl, id⟩
  | clear =>
    exact surveyUnits_congr hs (by simp) (fun d => by rw [State.clearCounters_ch]) fun d _ => by
      rw [State.clearCounters_ch]; exact ⟨rfl, id⟩
  | restarted => exact surveyUnits_sameSurvey hs (fun d => by simp) (sameSurvey_restart s)
  | unit i k k' hk he hok => exact surveyUnits_sameSurvey hs (fun _ => rfl) (sameSurvey_setUnit hk he hok)
  | queue e ho hn hl => exact surveyUnits_grantUpTo 4 (surveyUnits_queued hs ho hn hl)
  | surveyEnd c i r hu _ => exact surveyUnits_grantUpTo 4 (surveyUnits_vacated hs (vacated_endRunning hs hu r))
  | cancel c r =>
    exact surveyUnits_withdraw hs rfl (by rw [recordSurvey_ch, if_pos rfl]) fun d hd => by rw [recordSurvey_ch, if_neg hd]
  | quiesce c =>
    have hc := surveyUnits_cancelSurvey c hs
    refine surveyUnits_congr hc rfl (fun d => ?_) fun d hd => ?_ <;> rw [State.modCh, ch_setCh] <;> split
    · next h => rw [h]; rfl
    · rfl
    · next h => exact absurd (noSurvey_cancelSurvey c hs) (h ▸ hd)
    · exact ⟨rfl, id⟩
  | bind c sl k hf =>
    have hnone : (s.ch c).survey = .noSurvey := by
      by_contra hv
      have ho := hs.opened c hv
      rw [hf] at ho
      cases ho
    refine surveyUnits_congr hs rfl (fun d => ?_) fun d hd => ?_ <;> rw [admit_ch] <;> split
    · next h => rw [h, hnone]; rfl
    · rfl
    · next h => exact absurd hnone (h ▸ hd)
    · exact ⟨rfl, id⟩
  | release c => exact surveyUnits_release c hs
  | reset revert => exact surveyUnits_idle (by simp only [State.resetPart]) fun c => by rw [State.resetPart_ch]; rfl
  | powerUp low =>
    refine surveyUnits_idle (by simp [State.reset]) fun c => ?_
    rw [State.setNrst_ch, State.powerUp_ch]
    rfl

theorem noIdle_congr {s t : State} (hd : t.dsu = s.dsu) (hs : NoIdleCorrelator s) : NoIdleCorrelator t := by
  unfold NoIdleCorrelator
  rwa [hd]

theorem noIdle_sameSurvey {s t : State} (h : SameSurvey s.dsu t.dsu) (hs : NoIdleCorrelator s) : NoIdleCorrelator t := by
  obtain ⟨hq, hu⟩ := h
  refine hs.imp (hq ▸ ·) fun hn => idleUnit_eq_none.2 fun i hi => ?_
  obtain ⟨f, hf, -⟩ := hu i
  rw [hf, Option.map_eq_none_iff] at hi
  exact idleUnit_eq_none.1 hn i hi

theorem noIdle_act {s t : State} (h : Act s t) (hs : NoIdleCorrelator s) : NoIdleCorrelator t := by
  cases h with
  | highway | page | device | raised | link | lock | snapshot | choice | chan | bind => exact noIdle_congr rfl hs
  | profile k p _ => unfold State.setProfile; split <;> exact noIdle_congr rfl hs
  | guarded => exact noIdle_congr (by simp) hs
  | clear => exact noIdle_congr (by simp) hs
  | restarted => exact noIdle_sameSurvey (sameSurvey_restart s) hs
  | unit i k k' hk =>
    refine hs.imp id fun hn => idleUnit_eq_none.2 fun j => ?_
    rw [unit_setUnit]
    split
    · nofun
    · exact idleUnit_eq_none.1 hn j
  | queue e => exact noIdle_runArbiter _
  | surveyEnd c i r => exact noIdle_runArbiter _
  | cancel c r => exact noIdle_withdraw c (s := s.recordSurvey c r) hs
  | quiesce c => exact noIdle_cancelSurvey c hs
  | release c => exact noIdle_congr (release_withdrawn s c).1 (noIdle_withdraw c (s := s.setCh c _) hs)
  | reset revert => exact .inl (by simp only [State.resetPart])
  | powerUp low => exact .inl (by simp [State.reset])

/-- Settles O58: the arbiter runs after every act that frees a correlator or queues a survey, and each grant keeps the rules. -/
theorem surveysAreKept : Obligations.SurveysAreKept := fun _ _ h hs hn =>
  ⟨step_keep (fun _ _ => surveyUnits_act) (fun _ _ hs => surveyUnits_congr hs rfl (fun _ => rfl) fun _ _ => ⟨rfl, id⟩) h hs,
    step_keep (fun _ _ => noIdle_act) (fun _ _ hs => hs) h hn⟩

end Sys2Proof.Proofs
end

section
/-! PROOF. What every command leaves alone: the queue of waiting commands, and, but for power-up and NRST, the lock once it is
on; the choice counter only rises (R183, R184; log entries 1 and 4). -/

namespace Sys2Proof.Proofs
open Sys2Proof.Machine Sys2Proof.Safety Sys2Proof.Laws

/-- The waiting commands stand, the choice counter does not fall, and a lock that is on stays on. -/
structure Steady (s t : State) : Prop where
  pending : t.pending = s.pending
  choice : s.choice ≤ t.choice
  lock : s.lock = true → t.lock = true

theorem Steady.refl (s : State) : Steady s s := ⟨rfl, le_rfl, id⟩

theorem Steady.trans {s t u : State} (h : Steady s t) (k : Steady t u) : Steady s u :=
  ⟨k.pending.trans h.pending, h.choice.trans k.choice, k.lock ∘ h.lock⟩

/-- The same, with the later part first, so that the state between is known. -/
theorem Steady.after {s t u : State} (k : Steady t u) (h : Steady s t) : Steady s u := h.trans k

theorem steady_same {s t : State} (hp : t.pending = s.pending) (hc : t.choice = s.choice) (hl : t.lock = s.lock) :
    Steady s t := ⟨hp, hc.ge, fun h => hl.trans h⟩

/-! ### The highway -/

theorem steady_granted {s t : State} (h : Granted s t) : Steady s t :=
  steady_same (by rw [h.rest]) (by rw [h.rest]) (by rw [h.rest])

theorem steady_endRunning (s : State) (c : ChanId) (i : Fin 4) (r : SurveyRecord) : Steady s (s.endRunning c i r) :=
  steady_same (by rw [endRunning_rest]) (by rw [endRunning_rest]) (by rw [endRunning_rest])

theorem steady_drainFrame (s : State) (c : ChanId) : Steady s (drainFrame s c) := by
  unfold drainFrame
  dsimp only
  split <;> exact ⟨rfl, le_rfl, id⟩

theorem steady_channelFrame (rx : Option (Vector Sample 64)) (s : State) (c : ChanId) :
    Steady s (channelFrame rx s c) := by
  unfold channelFrame
  split
  · split
    · exact steady_same (by rw [turn_rest]) (by rw [turn_rest]) (by rw [turn_rest])
    · exact .refl s
  · exact steady_drainFrame s c
  · exact .refl s
  · exact .refl s

theorem steady_foldl {f : State → ChanId → State} (hf : ∀ s c, Steady s (f s c)) (cs : List ChanId) (s : State) :
    Steady s (cs.foldl f s) := by
  induction cs generalizing s with
  | nil => exact .refl s
  | cons c cs ih => exact (hf s c).trans (ih _)

/-- The next event reads the next order (log entry 4). -/
theorem steady_nextChoice (s : State) : Steady s s.nextChoice := ⟨rfl, Nat.le_succ _, id⟩

theorem steady_channelsAtFrame (s : State) (rx : Option (Vector Sample 64)) : Steady s (s.channelsAtFrame rx) := by
  have hfix : Steady s s.fixDrive := steady_same (by simp) (by simp) (by simp)
  exact (hfix.trans (steady_foldl (steady_channelFrame rx) _ _)).trans (steady_nextChoice _)

theorem steady_loseHighway (s : State) (sync : Bool) : Steady s (s.loseHighway sync) := by
  have hdrain : ∀ (u : State) (c : ChanId), Steady u (loseDrain u c) := fun u c => by
    unfold loseDrain
    split <;> exact ⟨rfl, le_rfl, id⟩
  have hdrains : ∀ u : State, Steady u u.loseDrains := fun u => (steady_foldl hdrain _ u).trans (steady_nextChoice _)
  unfold State.loseHighway
  dsimp only
  exact .after (hdrains _) ⟨rfl, le_rfl, id⟩

theorem steady_acquire (s : State) : Steady s s.acquire := by
  unfold State.acquire
  exact steady_same (by simp) (by simp) (by simp)

theorem steady_huntSync (s : State) (count : Nat) : Steady s (s.huntSync count) := by
  unfold State.huntSync
  split
  · split
    · exact .after (steady_acquire (s.huntRun 2)) ⟨rfl, le_rfl, id⟩
    · exact ⟨rfl, le_rfl, id⟩
  · exact ⟨rfl, le_rfl, id⟩

theorem steady_endWindow (s : State) (c : ChanId) (i : Fin 4) (k : Correlator) : Steady s (s.endWindow c i k) := by
  rw [endWindow_eq]
  exact .after (steady_endRunning _ c i _) ⟨rfl, le_rfl, id⟩

/-! ### Inbound and outbound bytes -/

theorem steady_arriveRefBlock (s : State) (f : Frame) : Steady s (arriveRefBlock s f) := by
  have hact : ∀ c seq erase refs, Steady s (actOnRef s c seq erase refs) := by
    intro c seq erase refs
    unfold actOnRef
    split
    · unfold State.drainIfEmpty
      split <;> exact ⟨rfl, le_rfl, id⟩
    all_goals exact ⟨rfl, le_rfl, id⟩
  unfold arriveRefBlock takeRefBlock
  split
  · exact ⟨rfl, le_rfl, id⟩
  · dsimp only
    split
    · exact ⟨rfl, le_rfl, id⟩
    · split
      · exact ⟨rfl, le_rfl, id⟩
      · exact hact _ _ _ _

theorem steady_arriveTxBlock (s : State) (f : Frame) : Steady s (arriveTxBlock s f) := by
  unfold arriveTxBlock takeTxBlock
  split
  · exact ⟨rfl, le_rfl, id⟩
  · next c _ =>
    dsimp only
    split
    · exact ⟨rfl, le_rfl, id⟩
    · split
      · exact ⟨rfl, le_rfl, id⟩
      · split
        · exact ⟨rfl, le_rfl, id⟩
        · cases (appendSamples (s.ch c) (payloadWords f.payload)).notice <;> exact ⟨rfl, le_rfl, id⟩

theorem steady_dispatch (s : State) (f : Frame) : Steady s (dispatch s f) := by
  unfold dispatch
  split
  · exact steady_arriveTxBlock s f
  · split
    · exact steady_arriveRefBlock s f
    · unfold arriveRequest
      split <;> exact ⟨rfl, le_rfl, id⟩

theorem steady_rescan (n : Nat) (bytes : List Byte) (s : State) : Steady s (rescan n bytes s) := by
  induction n generalizing bytes s with
  | zero => exact ⟨rfl, le_rfl, id⟩
  | succ n ih =>
    cases bytes with
    | nil => exact ⟨rfl, le_rfl, id⟩
    | cons b bs =>
      unfold rescan
      split
      · exact ih bs s
      · split
        · exact ⟨rfl, le_rfl, id⟩
        · exact .after (ih bs s.countBadFrame) ⟨rfl, le_rfl, id⟩
        · exact (steady_dispatch s _).trans (ih _ _)

theorem steady_completeFrame (s : State) (source : OutSource) : Steady s (s.completeFrame source) := by
  unfold State.completeFrame
  dsimp only
  split
  · exact ⟨rfl, le_rfl, id⟩
  · exact ⟨rfl, le_rfl, id⟩
  · exact ⟨rfl, le_rfl, id⟩
  · split <;> exact ⟨rfl, le_rfl, id⟩

/-! ### Requests -/

theorem steady_takeRequest {mine : Frame → Bool} {kind : Frame → Byte} {act : State → Frame → Answer} {s t : State}
    (ha : ∀ u f, Steady u (act u f).state) (h : takeRequest s mine kind act = .next t) : Steady s t := by
  unfold takeRequest unlessHeld at h
  split at h
  · exact Host.Outcome.next.inj h ▸ .refl s
  · split at h
    · cases h
    · next f rest _ =>
      split at h
      · split at h
        · have hact := ha (s.modLink fun l => { l with requests := rest }) f
          exact Host.Outcome.next.inj h ▸ ⟨hact.pending, hact.choice, hact.lock⟩
        · exact Host.Outcome.next.inj h ▸ .refl s
      · cases h

theorem steady_device {lengthOk : Nat → Bool} {act : State → Frame → Answer}
    (ha : ∀ u f, Steady u (act u f).state) (s : State) (f : Frame) : Steady s (deviceRequest lengthOk act s f).state := by
  unfold deviceRequest
  split
  · exact ha s f
  · exact .refl s

theorem steady_channel {lengthOk : Nat → Bool} {act : State → Frame → ChanId → Answer}
    (ha : ∀ u f c, Steady u (act u f c).state) (s : State) (f : Frame) :
    Steady s (channelRequest lengthOk act s f).state := by
  unfold channelRequest
  split
  · exact .refl s
  · split
    · exact ha s f _
    · exact .refl s

theorem steady_inStates {s : State} {c : ChanId} {states : List ChanState} {a : Answer} (ha : Steady s a.state) :
    Steady s (inStates s c states a).state := by
  unfold inStates
  split
  · exact ha
  · exact .refl s

theorem steady_profileWrite (s : State) (f : Frame) : Steady s (actProfileWrite s f).state := by
  unfold actProfileWrite
  split
  · exact .refl s
  · split
    · exact .refl s
    · split
      · exact .refl s
      · split
        · exact .refl s
        · dsimp only
          unfold State.setProfile
          split <;> exact ⟨rfl, le_rfl, id⟩

theorem steady_statsSnapshot (s : State) (f : Frame) : Steady s (actStatsSnapshot s f).state := by
  unfold actStatsSnapshot
  dsimp only
  split
  · exact steady_same (by simp) (by simp) (by simp)
  · exact ⟨rfl, le_rfl, id⟩

theorem steady_statsRead (s : State) (f : Frame) : Steady s (actStatsRead s f).state := by
  unfold actStatsRead
  split
  · exact .refl s
  · split <;> exact .refl s

theorem steady_bind (s : State) (f : Frame) (c : ChanId) : Steady s (actBind s f c).state := by
  unfold actBind admitIfRoom
  repeat' split
  all_goals exact ⟨rfl, le_rfl, id⟩

theorem steady_cancelSurvey (s : State) (c : ChanId) : Steady s (s.cancelSurvey c) :=
  steady_same (by rw [cancelSurvey_rest]) (by rw [cancelSurvey_rest]) (by rw [cancelSurvey_rest])

theorem steady_quiesce (s : State) (f : Frame) (c : ChanId) : Steady s (actQuiesce s f c).state := by
  have hdrain : Steady s (s.quiesce c) := by
    unfold State.quiesce State.drainAtOnce
    refine (steady_cancelSurvey s c).trans ?_
    repeat' split
    all_goals exact ⟨rfl, le_rfl, id⟩
  unfold actQuiesce
  split
  · exact hdrain
  all_goals exact .refl s

theorem steady_release (s : State) (f : Frame) (c : ChanId) : Steady s (actRelease s f c).state := by
  refine steady_inStates ?_
  have hunmap : Steady (s.withdrawSurvey c) ((s.withdrawSurvey c).unmap c) := by
    unfold State.unmap
    split <;> exact ⟨rfl, le_rfl, id⟩
  have hw := (steady_granted (withdrawSurvey_granted s c)).trans hunmap
  exact ⟨hw.pending, hw.choice, hw.lock⟩

theorem steady_echoMode (s : State) (f : Frame) (c : ChanId) : Steady s (actEchoMode s f c).state := by
  have hset : ∀ mode count thenMode, Steady s (answerEchoMode s c mode count thenMode).state := fun _ _ _ =>
    steady_inStates ⟨rfl, le_rfl, id⟩
  unfold actEchoMode
  split
  · exact .refl s
  · split
    · exact hset _ _ _
    · exact .refl s
  · exact hset _ _ _
  · exact hset _ _ _

theorem steady_echoExtend (s : State) (f : Frame) (c : ChanId) : Steady s (actEchoExtend s f c).state := by
  refine steady_inStates ?_
  repeat' split
  all_goals exact ⟨rfl, le_rfl, id⟩

theorem steady_eqMode (s : State) (f : Frame) (c : ChanId) : Steady s (actEqMode s f c).state := by
  unfold actEqMode
  split
  · exact .refl s
  · refine steady_inStates ?_
    dsimp only
    rw [setEqMode_eq]
    exact ⟨rfl, le_rfl, id⟩

theorem steady_tapsRead (s : State) (f : Frame) (c : ChanId) : Steady s (actTapsRead s f c).state := by
  unfold actTapsRead readTaps
  split
  · exact .refl s
  · split
    · exact .refl s
    · refine steady_inStates ?_
      repeat' split
      all_goals exact ⟨rfl, le_rfl, id⟩

theorem steady_tapsWrite (s : State) (f : Frame) (c : ChanId) : Steady s (actTapsWrite s f c).state := by
  unfold actTapsWrite writeTaps
  repeat' split
  all_goals exact ⟨rfl, le_rfl, id⟩

theorem steady_restore (s : State) (f : Frame) (c : ChanId) : Steady s (actRestore s f c).state := by
  refine steady_inStates ?_
  split <;> exact ⟨rfl, le_rfl, id⟩

theorem steady_survey (s : State) (f : Frame) (c : ChanId) : Steady s (actSurvey s f c).state := by
  refine steady_inStates ?_
  split
  · exact .refl s
  · change Steady s (s.queueSurvey _)
    exact steady_same (by rw [queueSurvey_rest]) (by rw [queueSurvey_rest]) (by rw [queueSurvey_rest])

theorem steady_surveyCancel (s : State) (f : Frame) (c : ChanId) : Steady s (actSurveyCancel s f c).state := by
  refine steady_inStates ?_
  split
  · exact steady_cancelSurvey s c
  · exact .refl s

/-! ### Every command -/

theorem steady_unlessHeld {s t : State} {body : StepResult} (hb : body = .next t → Steady s t)
    (h : unlessHeld s body = .next t) : Steady s t := by
  unfold unlessHeld at h
  split at h
  · exact Host.Outcome.next.inj h ▸ .refl s
  · exact hb h

theorem steady_done {s u t : State} (hu : Steady s u) (h : u.done = .next t) : Steady s t := by
  rw [← Host.Outcome.next.inj h]
  exact ⟨hu.pending, hu.choice, hu.lock⟩

theorem steady_guarded {s t u : State} {g : Prop} [Decidable g] {r : Refusal} (hu : Steady s u)
    (h : unlessHeld s (if g then u.done else .refused r) = .next t) : Steady s t := by
  refine steady_unlessHeld (fun h => ?_) h
  split at h
  · exact steady_done hu h
  · cases h

theorem steady_exec {i : Instr} {s t : State} (hi : i ≠ .powerUp) (hn : i ≠ .nrstHeldLow) (h : exec i s = .next t) :
    Steady s t := by
  cases i with
  | powerUp => exact absurd rfl hi
  | nrstHeldLow => exact absurd rfl hn
  | huntSync hfs => exact steady_guarded (s := s) (.after (steady_huntSync (s.foundHfs hfs) _) ⟨rfl, le_rfl, id⟩) h
  | frameEnd frame =>
    exact steady_guarded (s := s)
      (.after (steady_channelsAtFrame (s.foundHfs frame.hfs).countFrame _) ⟨rfl, le_rfl, id⟩) h
  | slip hfs =>
    refine steady_guarded (s := s) (.trans ?_ (steady_channelsAtFrame
      (((s.foundHfs hfs).countFrame.countDev fun d => { d with slips := d.slips + 1 }).raiseHighway .slip) none)) h
    exact ⟨rfl, le_rfl, id⟩
  | highwayLoss hfs => exact steady_guarded (s := s) (.after (steady_loseHighway (s.foundHfs hfs) _) ⟨rfl, le_rfl, id⟩) h
  | trainExpiry c => exact steady_guarded (s := s) (u := s.expireTraining c) ⟨rfl, le_rfl, id⟩ h
  | drainTimeout c => exact steady_guarded (s := s) (u := s.timeoutDrain c) ⟨rfl, le_rfl, id⟩ h
  | extensionTaken c =>
    refine steady_unlessHeld (fun h => ?_) h
    split at h
    · next n _ =>
      split at h
      · exact steady_done (u := s.modCh c fun ch => takenExtension ch n) ⟨rfl, le_rfl, id⟩ h
      · cases h
    · cases h
  | leadInEnd c =>
    refine steady_unlessHeld (fun h => ?_) h
    split at h
    · split at h
      · exact steady_done (u := s.setUnit _ _) ⟨rfl, le_rfl, id⟩ h
      · cases h
    · cases h
  | windowEnd c =>
    refine steady_unlessHeld (fun h => ?_) h
    split at h
    · split at h
      · exact steady_done (steady_endWindow s c _ _) h
      · cases h
    · cases h
  | chipSelectRise => exact steady_unlessHeld (steady_done (u := s.modLink _) ⟨rfl, le_rfl, id⟩) h
  | badFrame sdi =>
    refine steady_unlessHeld (fun h => ?_) h
    split at h
    · next bytes _ =>
      exact steady_done (.after (steady_rescan _ bytes (s.setReceiver .hunt []).countBadFrame) ⟨rfl, le_rfl, id⟩) h
    all_goals cases h
  | requestArrival sdi =>
    refine steady_unlessHeld (fun h => ?_) h
    split at h
    · split at h
      · refine steady_done ?_ h
        unfold arriveRequest
        split <;> exact ⟨rfl, le_rfl, id⟩
      · cases h
    all_goals cases h
  | txBlock sdi =>
    refine steady_unlessHeld (fun h => ?_) h
    split at h
    · split at h
      · exact steady_done (.after (steady_arriveTxBlock (s.setReceiver .hunt []) _) ⟨rfl, le_rfl, id⟩) h
      · cases h
    all_goals cases h
  | refBlock sdi =>
    refine steady_unlessHeld (fun h => ?_) h
    split at h
    · split at h
      · exact steady_done (.after (steady_arriveRefBlock (s.setReceiver .hunt []) _) ⟨rfl, le_rfl, id⟩) h
      · cases h
    all_goals cases h
  | inboundByte sdi =>
    refine steady_unlessHeld (fun h => ?_) h
    split at h
    · exact steady_done (u := s.modLink _) ⟨rfl, le_rfl, id⟩ h
    · exact steady_done (u := s.setReceiver _ _) ⟨rfl, le_rfl, id⟩ h
    all_goals cases h
  | arbiterChoice =>
    refine steady_unlessHeld (fun h => ?_) h
    split at h
    · exact steady_done (u := s.modLink _) ⟨rfl, le_rfl, id⟩ h
    · cases h
  | outboundFrameComplete n =>
    refine steady_unlessHeld (fun h => ?_) h
    split at h
    · cases h
    · refine steady_done ?_ h
      split
      · exact .after (steady_completeFrame (s.modLink _) _) ⟨rfl, le_rfl, id⟩
      · exact ⟨rfl, le_rfl, id⟩
  | unknownKind => exact steady_takeRequest (fun u _ => .refl u) h
  | info => exact steady_takeRequest (steady_device fun u _ => .refl u) h
  | reset =>
    refine steady_takeRequest (steady_device fun u f => ?_) h
    exact steady_same (by simp only [actReset, State.resetPart]) (by simp only [actReset, State.resetPart])
      (by simp only [actReset, State.resetPart])
  | profileWrite => exact steady_takeRequest (steady_device steady_profileWrite) h
  | profileRead =>
    refine steady_takeRequest (steady_device fun u f => ?_) h
    unfold actProfileRead
    split <;> exact .refl u
  | profileLock => exact steady_takeRequest (steady_device fun u _ => ⟨rfl, le_rfl, fun _ => rfl⟩) h
  | statsSnapshot => exact steady_takeRequest (steady_device steady_statsSnapshot) h
  | statsRead => exact steady_takeRequest (steady_device steady_statsRead) h
  | bind => exact steady_takeRequest (steady_channel steady_bind) h
  | quiesce => exact steady_takeRequest (steady_channel steady_quiesce) h
  | release => exact steady_takeRequest (steady_channel steady_release) h
  | echoMode => exact steady_takeRequest (steady_channel steady_echoMode) h
  | echoExtend => exact steady_takeRequest (steady_channel steady_echoExtend) h
  | setDelay => exact steady_takeRequest (steady_channel fun _ _ _ => steady_inStates ⟨rfl, le_rfl, id⟩) h
  | eqMode => exact steady_takeRequest (steady_channel steady_eqMode) h
  | tapsRead => exact steady_takeRequest (steady_channel steady_tapsRead) h
  | tapsWrite => exact steady_takeRequest (steady_channel steady_tapsWrite) h
  | checkpoint => exact steady_takeRequest (steady_channel fun _ _ _ => steady_inStates ⟨rfl, le_rfl, id⟩) h
  | restore => exact steady_takeRequest (steady_channel steady_restore) h
  | survey => exact steady_takeRequest (steady_channel steady_survey) h
  | surveyCancel => exact steady_takeRequest (steady_channel steady_surveyCancel) h
  | quality => exact steady_takeRequest (steady_channel fun u _ _ => steady_inStates (.refl u)) h

/-- Settles O3: power-up and NRST keep the model's own two fields, and every other command is steady. -/
theorem commandsKeepPending : Obligations.CommandsKeepPending := by
  intro i s t h
  by_cases hp : i = .powerUp
  · subst hp
    have hdone : s.powerUp.done = .next t := h
    rw [← Host.Outcome.next.inj hdone]
    exact ⟨by simp, by simp⟩
  by_cases hn : i = .nrstHeldLow
  · subst hn
    have hdone : (s.powerUp.setNrst true).done = .next t := h
    rw [← Host.Outcome.next.inj hdone]
    exact ⟨by simp, by simp⟩
  have hsteady := steady_exec hp hn h
  exact ⟨hsteady.pending, hsteady.choice⟩

end Sys2Proof.Proofs
end

section
/-! PROOF. The device requests RESET (R207), the profile table's (R179 to R183) and the statistics' (R174, R176): what each act
answers, and the statement of the whole request. -/

namespace Sys2Proof.Proofs
open Sys2Proof.Machine Sys2Proof.Safety Sys2Proof.Laws

/-! ### RESET -/

theorem exec_reset (s : State) : exec .reset s = takeKind 0x02 (deviceRequest (lengthIs 2) actReset) s := rfl

/-- A frame in progress is a notice's still, or has no place in a queue (R204, R207). -/
theorem outFrame_detach (o : OutFrame) :
    o.detach = { o with source := if o.source = .notice then .notice else .removed } := by
  obtain ⟨bytes, position, source⟩ := o
  cases source <;> rfl

theorem dequeued_resetPart (s : State) (rest : List Frame) (revert : Bool) :
    (dequeued s rest).resetPart revert = dequeued (s.resetPart revert) rest := by
  simp only [State.resetPart, dequeued, State.modLink, revertedProfiles, Link.cleared]
  rfl

theorem revertedProfiles_eq (s : State) (revert : Bool) :
    revertedProfiles s revert
      = if revert = true ∧ s.lock = false then Vector.replicate 7 defaultProfile else s.profiles := by
  simp only [revertedProfiles, Bool.and_eq_true, Bool.not_eq_true']

/-- Settles O30: the state after RESET is the power-up state but for what R207 lets stand. -/
theorem resetReturnsEveryBlock : Obligations.ResetReturnsEveryBlock := by
  intro s f rest hr hk hl revert
  have ha : actReset (dequeued s rest) f
      = ⟨dequeued (s.resetPart revert) rest, .ok, [if revert = true ∧ s.lock = true then 1 else 0]⟩ := by
    have hflag : boolWord (f.flag 0 0 && s.lock) = if revert = true ∧ s.lock = true then 1 else 0 := by
      simp only [boolWord, Bool.and_eq_true]
      rfl
    rw [← dequeued_resetPart, ← hflag]
    rfl
  have hkind : f.kind + 0x80 = 0x82 := by rw [hk]; rfl
  rw [exec_reset, takeKind_deviceRequest hr hk (lengthIs_eq_true.2 hl) ha]
  simp only [answered, State.resetPart, State.reset, Link.cleared, revertedProfiles_eq, hkind, List.nil_append, hr.high,
    funext outFrame_detach]

/-! ### The profile table -/

theorem exec_profileWrite (s : State) :
    exec .profileWrite s = takeKind 0x03 (deviceRequest (lengthIs 36) actProfileWrite) s := rfl

theorem exec_profileRead (s : State) :
    exec .profileRead s = takeKind 0x04 (deviceRequest (lengthIs 2) actProfileRead) s := rfl

theorem exec_profileLock (s : State) :
    exec .profileLock s = takeKind 0x05 (deviceRequest (lengthIs 0) actProfileLock) s := rfl

/-- The number a check names is the field's place in the request, and its value is what the request carries (R180, R209). -/
theorem fieldChecks_written {f : Frame} {e : Nat × Nat × Bool} (h : e ∈ fieldChecks (writtenProfile f)) :
    1 ≤ e.1 ∧ e.1 ≤ 16 ∧ e.2.1 = f.value e.1 := by
  simp only [fieldChecks, List.mem_cons, List.not_mem_nil, or_false] at h
  rcases h with rfl | rfl | rfl | rfl | rfl | rfl | rfl | rfl | rfl | rfl | rfl | rfl | rfl | rfl | rfl | rfl <;>
    exact ⟨by norm_num, by norm_num, rfl⟩

/-- The checks are in the order of the fields' numbers (R179). -/
theorem fieldChecks_sorted (p : Profile) : (fieldChecks p).Pairwise fun a b => a.1 < b.1 := by
  have hnumbers : ((fieldChecks p).map Prod.fst).Pairwise (· < ·) := by
    change [1, 2, 3, 4, 5, 6, 7, 8, 9, 10, 11, 12, 13, 14, 15, 16].Pairwise (· < ·)
    decide
  exact List.pairwise_map.1 hnumbers

/-- The field a refused write names is the first that fails its check (R180). -/
theorem badField_first {p : Profile} {n v : Nat} (h : badField p = some (n, v)) :
    (n, v, false) ∈ fieldChecks p ∧ ∀ (m w : Nat) (ok : Bool), (m, w, ok) ∈ fieldChecks p → m < n → ok = true := by
  obtain ⟨⟨n', v', ok'⟩, hfind, heq⟩ := Option.map_eq_some_iff.1 h
  cases heq
  obtain ⟨hfails, before, after, hsplit, hbefore⟩ := List.find?_eq_some_iff_append.1 hfind
  obtain rfl : ok' = false := by simpa using hfails
  refine ⟨hsplit ▸ List.mem_append_right _ (.head _), fun m w ok hmem hlt => ?_⟩
  have hsorted := fieldChecks_sorted p
  rw [hsplit, List.pairwise_append, List.pairwise_cons] at hsorted
  rw [hsplit, List.mem_append, List.mem_cons] at hmem
  obtain hmem | hmem | hmem := hmem
  · simpa using hbefore _ hmem
  · cases hmem
    exact absurd hlt (lt_irrefl _)
  · exact absurd hlt (Nat.lt_asymm (hsorted.2.1.1 _ hmem))

theorem actProfileWrite_slot {f : Frame} (h : f.value 0 = 0 ∨ 8 ≤ f.value 0) (s : State) :
    actProfileWrite s f = ⟨s, .badProfile, [0]⟩ := by
  unfold actProfileWrite
  obtain h | h := h
  · rw [if_neg (by omega), if_pos h]
  · rw [if_pos (by omega)]

theorem actProfileWrite_locked {f : Frame} {s : State} (h1 : 1 ≤ f.value 0) (h7 : f.value 0 ≤ 7) (hlock : s.lock = true) :
    actProfileWrite s f = refuse s .locked := by
  unfold actProfileWrite
  rw [if_neg (by omega), if_neg (by omega), if_pos hlock]

theorem actProfileWrite_bad {f : Frame} {s : State} {e : Nat × Nat} (h1 : 1 ≤ f.value 0) (h7 : f.value 0 ≤ 7)
    (hlock : s.lock = false) (hb : badField (writtenProfile f) = some e) :
    actProfileWrite s f = ⟨s, .badProfile, [natWord e.1, natWord e.2]⟩ := by
  unfold actProfileWrite
  rw [if_neg (by omega), if_neg (by omega), if_neg (by simp [hlock]), hb]

theorem actProfileWrite_good {f : Frame} {s : State} (h1 : 1 ≤ f.value 0) (h7 : f.value 0 ≤ 7) (hlock : s.lock = false)
    (hb : badField (writtenProfile f) = none) :
    actProfileWrite s f = ⟨s.setProfile (f.value 0) (writtenProfile f), .ok, [f.word 0]⟩ := by
  unfold actProfileWrite
  rw [if_neg (by omega), if_neg (by omega), if_neg (by simp [hlock]), hb]

theorem setProfile_eq (s : State) (k : Nat) (p : Profile) :
    s.setProfile k p = { s with profiles := (s.setProfile k p).profiles } := by
  unfold State.setProfile
  split <;> rfl

theorem dequeued_setProfile (s : State) (rest : List Frame) (k : Nat) (p : Profile) :
    (dequeued s rest).setProfile k p = dequeued (s.setProfile k p) rest := by
  unfold State.setProfile
  split <;> rfl

/-- Settles O31: the clauses are the act's branches; the field named is the first that fails. -/
theorem profileWriteChecksThenStores : Obligations.ProfileWriteChecksThenStores := by
  intro s f rest hr hk hl p
  have taken : ∀ {t : State} {code : ResultCode} {items : List Word},
      actProfileWrite (dequeued s rest) f = ⟨dequeued t rest, code, items⟩ →
      exec .profileWrite s = .next (answered t f rest code items) := fun ha => by
    rw [exec_profileWrite]
    exact takeKind_deviceRequest hr hk (lengthIs_eq_true.2 hl) ha
  refine ⟨fun h => taken (actProfileWrite_slot h _), fun h1 h7 hlock => taken (actProfileWrite_locked h1 h7 hlock),
    fun h1 h7 hlock hbad => ?refused, fun h1 h7 hlock hin => ?stored⟩
  case refused =>
    cases hfind : badField (writtenProfile f) with
    | none => exact absurd (badField_eq_none_iff.1 hfind) hbad
    | some e =>
      obtain ⟨n, v⟩ := e
      obtain ⟨hmem, hfirst⟩ := badField_first hfind
      obtain ⟨h1n, hn16, hv⟩ := fieldChecks_written hmem
      obtain rfl : v = f.value n := hv
      have hword : natWord (f.value n) = f.word n := BitVec.ofNat_toNat _ _ |>.trans (BitVec.setWidth_eq _)
      have ha := actProfileWrite_bad (s := dequeued s rest) h1 h7 hlock hfind
      rw [hword] at ha
      exact ⟨n, h1n, hn16, hmem, hfirst, taken ha⟩
  case stored =>
    have ha := actProfileWrite_good (s := dequeued s rest) h1 h7 hlock (badField_eq_none_iff.2 hin)
    rw [dequeued_setProfile] at ha
    exact ⟨s.setProfile (f.value 0) (writtenProfile f), taken ha,
      profile_setProfile s ⟨h1, h7⟩ (writtenProfile f), setProfile_eq s _ _⟩

/-- Settles O32: the reply reads the slot, and the state stands. -/
theorem profileReadReports : Obligations.ProfileReadReports := by
  intro s f rest hr hk hl
  have taken : ∀ {code : ResultCode} {items : List Word},
      actProfileRead (dequeued s rest) f = ⟨dequeued s rest, code, items⟩ →
      exec .profileRead s = .next (answered s f rest code items) := fun ha => by
    rw [exec_profileRead]
    exact takeKind_deviceRequest hr hk (lengthIs_eq_true.2 hl) ha
  refine ⟨fun h => taken (if_pos (by omega)), fun h => ?_⟩
  intro p
  have hflags : profileFlagsWord p
      = BitVec.ofNat 16 ((if p.autoCheckpoint then 1 else 0) + (if p.divergenceGuard then 2 else 0)) := by
    unfold profileFlagsWord
    cases p.autoCheckpoint <;> cases p.divergenceGuard <;> rfl
  have ha : actProfileRead (dequeued s rest) f = ⟨dequeued s rest, .ok, f.word 0 :: (profileWords p ++ [boolWord s.lock])⟩ :=
    if_neg (by omega)
  rw [taken ha, profileWords, hflags]
  rfl

/-- Settles O33: the first half by the act; the lock is steady under every other command. -/
theorem lockHoldsUntilPowerUp : Obligations.LockHoldsUntilPowerUp := by
  refine ⟨fun s f rest hr hk hp => ?_, fun i s t hi hn hlock h => (steady_exec hi hn h).lock hlock⟩
  have taken : exec .profileLock s
      = .next (answered { s with lock := true } f rest (if s.lock then .already else .ok) [1]) := by
    rw [exec_profileLock]
    exact takeKind_deviceRequest hr hk (lengthIs_eq_true.2 (by rw [hp]; rfl)) rfl
  refine ⟨fun hoff => ?_, fun hon => ?_⟩
  · rw [taken, hoff]
    rfl
  · have hsame : { s with lock := true } = s := by rw [← hon]
    rw [taken, hon, hsame]
    rfl

/-! ### Statistics -/

theorem exec_statsSnapshot (s : State) :
    exec .statsSnapshot s = takeKind 0x06 (deviceRequest (lengthIs 2) actStatsSnapshot) s := rfl

theorem exec_statsRead (s : State) :
    exec .statsRead s = takeKind 0x07 (deviceRequest (lengthIs 2) actStatsRead) s := rfl

/-- The state after a STATS_SNAPSHOT (R174). -/
def snapshotTaken (s : State) (clear : Bool) : State :=
  if clear then ({ s with snapshot := s.snapshotNow true }).clearCounters else { s with snapshot := s.snapshotNow false }

theorem actStatsSnapshot_dequeued (s : State) (rest : List Frame) (f : Frame) :
    actStatsSnapshot (dequeued s rest) f = ⟨dequeued (snapshotTaken s (f.flag 0 0)) rest, .ok,
      countWords s.highway.frameCounter ++ [boolWord (f.flag 0 0)]⟩ := by
  unfold actStatsSnapshot snapshotTaken
  cases f.flag 0 0 with
  | false => rfl
  | true =>
    simp only [State.clearCounters, dequeued, State.modLink, State.snapshotNow, if_true]
    rfl

theorem snapshotTaken_snapshot (s : State) (clear : Bool) : (snapshotTaken s clear).snapshot = s.snapshotNow clear := by
  cases clear with
  | false => rfl
  | true => simp only [snapshotTaken, if_true, State.clearCounters]

theorem snapshotTaken_rest (s : State) (clear : Bool) :
    snapshotTaken s clear = { s with
      snapshot := (snapshotTaken s clear).snapshot
      device := (snapshotTaken s clear).device
      channels := (snapshotTaken s clear).channels } := by
  cases clear with
  | false => rfl
  | true => simp only [snapshotTaken, if_true, State.clearCounters]

/-- Settles O34: the set is copied from the state before the counters are cleared. -/
theorem snapshotCopiesThenClears : Obligations.SnapshotCopiesThenClears := by
  intro s f rest hr hk hl clear
  refine ⟨snapshotTaken s clear, ?_, snapshotTaken_rest s clear, ?_, ?_, ?_, ?_, fun c => ?_, ?_, fun c => ?_⟩
  · rw [exec_statsSnapshot]
    exact takeKind_deviceRequest hr hk (lengthIs_eq_true.2 hl) (actStatsSnapshot_dequeued s rest f)
  · rw [snapshotTaken_snapshot]; rfl
  · rw [snapshotTaken_snapshot]; rfl
  · rw [snapshotTaken_snapshot]; rfl
  · rw [snapshotTaken_snapshot]; rfl
  · rw [snapshotTaken_snapshot]
    simp [State.snapshotNow]
  · unfold snapshotTaken
    cases clear with
    | false => rfl
    | true => simp only [if_true, State.clearCounters]; rfl
  · unfold snapshotTaken
    cases clear with
    | false => rfl
    | true => rw [if_pos rfl, State.clearCounters_ch]; rfl

theorem selectorOf_val (c : ChanId) : selectorOf c.val = some c := dif_pos c.isLt

/-- Settles O35: the act's branches on the selector. -/
theorem statsReadReportsSet : Obligations.StatsReadReportsSet := by
  intro s f rest hr hk hl set words head
  have taken : ∀ {code : ResultCode} {items : List Word},
      actStatsRead (dequeued s rest) f = ⟨dequeued s rest, code, items⟩ →
      exec .statsRead s = .next (answered s f rest code items) := fun ha => by
    rw [exec_statsRead]
    exact takeKind_deviceRequest hr hk (lengthIs_eq_true.2 hl) ha
  refine ⟨fun h => taken (if_pos h), fun hrange hne => taken ?_, fun c hc => taken ?_⟩
  · have hnone : selectorOf (f.value 0) = none := dif_neg (by omega)
    unfold actStatsRead
    rw [if_neg hne, hnone]
    rfl
  · have hne : f.word 0 ≠ 0xFFFF := fun h => by
      have hlt := c.isLt
      rw [← hc, Frame.value, h] at hlt
      exact absurd hlt (by decide)
    unfold actStatsRead
    rw [if_neg hne, hc, selectorOf_val]
    cases hst : s.snapshot.channels[c.val].state <;>
      simp only [dequeued, State.modLink, set, hst] <;> rfl

end Sys2Proof.Proofs
end

section
/-! PROOF. The step and the two ends of NRST (R206, R210; log entries 1, 6 and 11), the power-up state against the invariants,
and the canonical form of the sample stores (log entry 2). -/

namespace Sys2Proof.Proofs
open Sys2Proof.Machine Sys2Proof.Safety Sys2Proof.Laws

/-- Where ATTN follows, letting it follow changes nothing (R189). -/
theorem settle_self {s : State} (h : AttnFollows s) : s.settle = s := by
  rw [State.settle, State.modLink, ← h]

/-! ### The step -/

/-- Settles O1: the queue's front is what a step matches on. -/
theorem stepRunsFrontCommand : Obligations.StepRunsFrontCommand := fun _ _ _ => rfl

/-- On an empty queue a step is one bit clock at which the frame sync input is found low (log entry 6). -/
theorem step_idle {s : State} (h : s.pending = []) : step s = idle s := by
  unfold step
  rw [h]

theorem idle_high {s : State} (h : s.nrstLow = false) : idle s = .next (s.foundHfs [false]).bitClock :=
  unlessHeld_high _ _ h

/-- Hunting, the bit count stands without a reference and rises to 3072 with one (R27, R29; log entry 7). -/
theorem bitClock_hunting {s : State} (h : s.highway.state ≠ .synced) :
    s.bitClock = if s.highway.reference
      then { s with highway := { s.highway with bitCount := min (s.highway.bitCount + 1) 3072 } } else s := by
  unfold State.bitClock
  cases hst : s.highway.state with
  | synced => exact absurd hst h
  | hunt => rfl
  | lost => rfl

theorem bitClock_synced {s : State} (h : s.highway.state = .synced) :
    s.bitClock = if s.highway.bitCount + 1 < 3072
      then { s with highway := { s.highway with bitCount := s.highway.bitCount + 1 } }
      else (s.loseHighway false).settle := by
  unfold State.bitClock
  rw [h]

/-- Settles O2: the cases of the bit clock; the last is the loss of a highway whose input stays low. -/
theorem emptyQueueIsOneBitClock : Obligations.EmptyQueueIsOneBitClock := by
  intro s hq
  refine ⟨fun hlow => ?held, fun hhigh hst href => ?standing, fun hhigh hst href => ?counting, fun hhigh hst hlt => ?synced,
    fun hhigh hst hcount => ?lost⟩
  case held => rw [step_idle hq, idle, unlessHeld_low _ _ hlow]
  case standing =>
    rw [step_idle hq, idle_high hhigh, bitClock_hunting (s := s.foundHfs [false]) hst,
      if_neg (by simp [href])]
    rfl
  case counting =>
    rw [step_idle hq, idle_high hhigh, bitClock_hunting (s := s.foundHfs [false]) hst, if_pos (by simp [href])]
    rfl
  case synced =>
    rw [step_idle hq, idle_high hhigh, bitClock_synced (s := s.foundHfs [false]) hst,
      if_pos (show (s.foundHfs [false]).highway.bitCount + 1 < 3072 from by simp only [State.foundHfs]; omega)]
    rfl
  case lost =>
    have hnosync : syncAtLast s.highway.hfs [false] = false := by cases s.highway.hfs <;> rfl
    have hguard : s.highway.state = .synced ∧ s.highway.bitCount < Config.lossClocks
        ∧ s.highway.bitCount + [false].length = Config.lossClocks
        ∧ (noSync s.highway.hfs [false] ∨ syncAtLast s.highway.hfs [false]) :=
      ⟨hst, by rw [hcount]; decide, by rw [hcount]; rfl, .inl (by cases s.highway.hfs <;> rfl)⟩
    rw [step_idle hq, idle_high hhigh, bitClock_synced (s := s.foundHfs [false]) hst,
      if_neg (show ¬ (s.foundHfs [false]).highway.bitCount + 1 < 3072 from by simp only [State.foundHfs]; omega)]
    change _ = execHighwayLoss [false] s
    rw [execHighwayLoss, unlessHeld_high _ _ hhigh, if_pos hguard, hnosync, State.done_eq]

/-! ### NRST and power -/

/-- Settles O4: every other row is guarded by NRST. -/
theorem heldLowStandsStill : Obligations.HeldLowStandsStill := by
  intro i s hlow hi hn
  have held : ∀ body : StepResult, unlessHeld s body = .next s := fun body => unlessHeld_low s body hlow
  cases i with
  | powerUp => exact absurd rfl hi
  | nrstHeldLow => exact absurd rfl hn
  | huntSync | frameEnd | slip | highwayLoss | trainExpiry | extensionTaken | leadInEnd | windowEnd | drainTimeout
  | chipSelectRise | badFrame | requestArrival | txBlock | refBlock | inboundByte | arbiterChoice | outboundFrameComplete
  | unknownKind | info | reset | profileWrite | profileRead | profileLock | statsSnapshot | statsRead | bind | quiesce
  | release | echoMode | echoExtend | setDelay | eqMode | tapsRead | tapsWrite | checkpoint | restore | survey
  | surveyCancel | quality => exact held _

theorem profile_reset (k : Nat) : State.reset.profile k = defaultProfile := profile_of_default (by simp only [State.reset]) k

/-- ATTN is asserted at power-up, for STARTED waits (R206). -/
theorem settle_powerUp (s : State) : s.powerUp.settle = s.powerUp :=
  settle_self (by simp [AttnFollows, State.reset, Link.reset, attnDue])

theorem settle_powerUp_low (s : State) : (s.powerUp.setNrst true).settle = s.powerUp.setNrst true :=
  settle_self (by simp [AttnFollows, State.reset, Link.reset, attnDue])

/-- Settles O5: the power-up state does not depend on the state before, and holds the values the rules name. -/
theorem powerUpState : Obligations.PowerUpState := by
  refine ⟨fun s => ⟨?_, ?_⟩, rfl, rfl, rfl, rfl, rfl, fun sl => ?_, fun c => ?_, by simp only [State.reset],
    rfl, rfl, fun i => ?_, profile_reset, rfl, rfl, rfl, rfl, rfl, rfl, fun c => ?_, rfl, rfl, rfl, rfl, rfl, rfl, rfl, rfl⟩
  · change s.powerUp.done = _
    rw [State.done_eq, settle_powerUp, State.powerUp]
  · change (s.powerUp.setNrst true).done = _
    rw [State.done_eq, settle_powerUp_low, State.setNrst, State.powerUp]
  · simp [State.reset, Highway.reset]
  · rw [State.reset_ch]
    exact ⟨rfl, rfl, rfl, rfl, rfl, rfl⟩
  · simp [State.reset, Dsu.unit]
  · simp [State.reset, Snapshot.invalid]
    rfl

/-- Settles O6: nothing is held, nothing waits but STARTED, and nothing is surveyed. -/
theorem resetMeetsInvariants : Obligations.ResetMeetsInvariants := by
  have hch : ∀ c : ChanId, State.reset.ch c = Channel.blank ChanCounters.zero := State.reset_ch
  have hnone : NothingHeld State.reset :=
    ⟨by simp only [State.reset], by simp only [State.reset], by simp only [State.reset, Highway.reset], hch⟩
  have hstarted : State.reset.link.notices = [⟨0xFF, 1, .started⟩] := rfl
  refine ⟨tapPool_nothingHeld hnone, pagePlaces_nothingHeld hnone, slotMap_nothingHeld hnone,
    ⟨rfl, fun c => by rw [hch]; rfl⟩, ⟨?_, ?_, ?_⟩,
    ⟨Nat.zero_le _, Nat.zero_le _, Nat.zero_le _, by decide, fun c => by rw [hch]; exact Nat.zero_le _⟩,
    by simp [AttnFollows, State.reset, Link.reset, attnDue], .inl ⟨rfl, rfl⟩,
    ⟨fun k => by rw [profile_reset]; exact inRange_default, fun c => by rw [hch]; exact inRange_default⟩,
    fun c hheld => absurd (by rw [hch]; rfl) hheld, fun c => ?_, fun c => by rw [hch]; exact qualityRange_zero,
    surveyUnits_idle (by simp only [State.reset]) fun c => by rw [hch]; rfl, .inl (by simp only [State.reset])⟩
  · rw [hstarted]
    exact List.nodup_singleton _
  · rw [hstarted]
    simp
  · rw [hstarted]
    intro n hn c hc
    rw [List.mem_singleton.1 hn] at hc
    exact absurd hc (deviceByte_ne c)
  · rw [hch]
    exact (pendingList_iff _).2 ⟨pendingCore_nil rfl rfl, fun _ => rfl⟩

/-! ### The sample stores -/

/-- A step of a context writes its input ring or leaves it. -/
theorem ring_step {x y : Channel} (h : ChanStep x y) (hx : memWf x.eq.ring = true) : memWf y.eq.ring = true := by
  cases h with
  | filter rx r => exact memWf_write _ _ hx
  | transmit b =>
    obtain ⟨-, h⟩ | ⟨-, -, -, h⟩ | ⟨-, -, h⟩ := chooseSample_cases x b <;> rw [h]
    · exact hx
    · exact hx
    · cases hq : x.tx.queue with
      | nil => rw [chooseQueue_nil hq]; exact hx
      | cons => rw [chooseQueue_cons hq]; exact hx
  | receive rx => unfold receiveStage; split <;> exact hx
  | update u r => unfold echoUpdate; split <;> exact hx
  | expire => unfold expiredTraining; dsimp only; split <;> exact hx
  | diverge => unfold divergedChannel; dsimp only; split <;> exact hx
  | matched seq erase refs =>
    obtain ⟨_, _, _, _, _, -, -, -, -, heq⟩ := matchRef_frame x seq erase refs
    rw [heq]
    exact hx
  | complete =>
    dsimp only
    unfold makeEntry
    split <;> exact hx
  | taps set => cases set <;> exact hx
  | append | countDown | extend | counters | apply | strikes | arms | emptied | ended | drainTick | halt | expireRefs
  | setEcho | setExt | delay | eqMode | cursor | checkpoint | restore => exact hx

theorem ring_inv : ChanInv fun ch => memWf ch.eq.ring = true where
  step _ _ := ring_step
  guarded x hx := by unfold guardIfOpen; split <;> exact hx
  shared _ _ _ _ _ hx := hx
  quiesced _ _ hx := hx
  blank _ := memWf_nil

theorem pageMem_act {s t : State} (h : Act s t) (hs : memWf s.pageMem = true) : memWf t.pageMem = true := by
  have same : ∀ {t : State}, t.pageMem = s.pageMem → memWf t.pageMem = true := fun h => h ▸ hs
  cases h with
  | page a x => exact memWf_write a x hs
  | bind c sl k => exact memWf_clearPages _ hs
  | powerUp low => exact (show (s.powerUp.setNrst low).pageMem = [] by simp [State.reset]) ▸ memWf_nil
  | highway | device | raised | link | unit | lock | snapshot | choice | chan => exact hs
  | profile k p _ => unfold State.setProfile; split <;> exact hs
  | guarded => exact same (by simp)
  | restarted => exact same (by simp)
  | clear => exact same (by simp)
  | queue e => exact same (by rw [queueSurvey_rest])
  | surveyEnd c i r => exact same (by rw [endRunning_rest])
  | cancel c r => exact same (by rw [recordWithdraw_rest])
  | quiesce c => exact same (by rw [State.modCh_pageMem, cancelSurvey_rest])
  | release c =>
    refine same ?_
    have hunmap : ∀ u : State, (u.unmap c).pageMem = u.pageMem := fun u => by
      unfold State.unmap
      split <;> rfl
    refine (hunmap _).trans ?_
    rw [(withdrawSurvey_granted s c).rest]
  | reset revert => exact same (by simp only [State.resetPart])

/-- Settles O53: every write keeps the form, and so does the zeroing of pages at BIND (log entry 2). -/
theorem memoryStaysCanonical : Obligations.MemoryStaysCanonical := fun _ _ h =>
  step_keep (fun _ _ ha hs => ⟨pageMem_act ha hs.1, ring_inv.act ha (fun _ _ _ _ => memWf_nil) hs.2⟩) (fun _ _ hs => hs) h

end Sys2Proof.Proofs
end

section
/-! PROOF. The block boundary: what it completes (R128, R129, R132), the divergence check (R103 to R105) and the quality
crossing check (R167 to R169). -/

namespace Sys2Proof.Proofs
open Sys2Proof.Machine Sys2Proof.Safety Sys2Proof.Laws

/-! ### The divergence check -/

theorem strikeDue_iff (ch : Channel) : strikeDue ch = true ↔ ch.params.divergenceGuard = true ∧ ch.echo.mode ≠ .hold
    ∧ ch.echo.guard = 0 ∧ 16 ≤ ch.quality.pRx ∧ 2 * ch.quality.pRx ≤ ch.quality.pRes := by
  simp only [strikeDue, Bool.and_eq_true, decide_eq_true_eq, and_assoc]

theorem divergenceCheck_notDue {s : State} {c : ChanId} (h : ¬ strikeDue (s.ch c) = true) :
    divergenceCheck s c = s.setCh c (setStrikes (s.ch c) 0) := by
  unfold divergenceCheck
  dsimp only
  rw [if_neg h]
  rfl

theorem divergenceCheck_strike {s : State} {c : ChanId} (h : strikeDue (s.ch c) = true) (hn : (s.ch c).echo.strikes + 1 < 3) :
    divergenceCheck s c = s.setCh c (setStrikes (s.ch c) ((s.ch c).echo.strikes + 1)) := by
  unfold divergenceCheck
  dsimp only
  rw [if_pos h, if_neg (Nat.not_le.2 hn)]
  rfl

theorem divergenceCheck_third {s : State} {c : ChanId} (h : strikeDue (s.ch c) = true) (hn : 3 ≤ (s.ch c).echo.strikes + 1) :
    divergenceCheck s c = s.diverge c := by
  unfold divergenceCheck
  dsimp only
  rw [if_pos h, if_pos hn]

/-- The action: the context restored and counted, then the notice (R104, R105). -/
theorem diverge_eq (s : State) (c : ChanId) :
    s.diverge c = (s.setCh c { divergedChannel (s.ch c) with counters :=
      { (divergedChannel (s.ch c)).counters with
        divergeEvents := (divergedChannel (s.ch c)).counters.divergeEvents + 1 } }).raiseCh c
      (.diverged (divergenceRestores (s.ch c)) (divergedChannel (s.ch c)).echo.delay) := by
  have hsame : (s.modCh c divergedChannel).ch c = divergedChannel (s.ch c) := State.modCh_ch_same _ _ _
  change ((s.modCh c divergedChannel).modCh c fun ch => { ch with counters :=
    { ch.counters with divergeEvents := ch.counters.divergeEvents + 1 } }).raiseCh c _ = _
  rw [State.modCh, hsame, State.modCh, State.setCh_setCh]

theorem diverged_zero {ch : Channel} (h : ch.echo.checkpoint = none) :
    divergedChannel ch = { ch with echo := { ch.echo with
      near := List.replicate ch.echo.near.length 0, far := List.replicate ch.echo.far.length 0
      mode := .hold, trainCount := 0, extension := none, strikes := 0 } } := by
  simp only [divergedChannel, h]

theorem diverged_checkpoint {ch : Channel} {k : Machine.Checkpoint} (h : ch.echo.checkpoint = some k) :
    divergedChannel ch = { ch with echo := { ch.echo with
      near := k.near, far := k.far, delay := k.delay
      mode := .hold, trainCount := 0, extension := none, strikes := 0 } } := by
  simp only [divergedChannel, h, loadCheckpoint]

/-- Settles O15: strikes by whether one is due, and the action by whether a checkpoint is held. -/
theorem divergenceRestores : Obligations.DivergenceRestores := by
  intro s c ch due acted
  refine ⟨fun hd => ?clear, fun hd hn => ?rise, fun hd hn hk => ?zero, fun k hd hn hk => ?restore⟩
  case clear => exact divergenceCheck_notDue fun h => hd ((strikeDue_iff _).1 h)
  case rise => exact divergenceCheck_strike ((strikeDue_iff _).2 hd) hn
  case zero =>
    have hwhat : Machine.divergenceRestores (s.ch c) = .zero := by simp only [Machine.divergenceRestores, show (s.ch c).echo.checkpoint = none from hk]
    rw [divergenceCheck_third ((strikeDue_iff _).2 hd) hn, diverge_eq, hwhat, diverged_zero hk]
  case restore =>
    have hwhat : Machine.divergenceRestores (s.ch c) = .checkpoint := by
      simp only [Machine.divergenceRestores, show (s.ch c).echo.checkpoint = some k from hk]
    rw [divergenceCheck_third ((strikeDue_iff _).2 hd) hn, diverge_eq, hwhat, diverged_checkpoint hk]

/-! ### The quality crossing check -/

/-- An armed value that is checked, measured and below its threshold (R168). -/
def Falls (checked : Prop) (arm : Arming) (v : Option Nat) (low : Nat) : Prop :=
  checked ∧ arm = .armed ∧ ∃ n, v = some n ∧ n < low

/-- A disarmed value that is checked, measured and at its re-arming level (R168). -/
def Rises (checked : Prop) (arm : Arming) (v : Option Nat) (low : Nat) : Prop :=
  checked ∧ arm = .disarmed ∧ ∃ n, v = some n ∧ min (low + 3) 45 ≤ n

/-- What a check of one value gives: its new arming, and whether it is a crossing (R168). -/
structure CrossingIs (checked : Prop) (arm : Arming) (v : Option Nat) (low : Nat) (r : Arming × Bool) : Prop where
  crossed : r.2 = true ↔ Falls checked arm v low
  falls : Falls checked arm v low → r.1 = .disarmed
  rises : Rises checked arm v low → r.1 = .armed
  stands : ¬ Falls checked arm v low → ¬ Rises checked arm v low → r.1 = arm

theorem crossingIs_unchecked {checked : Prop} (h : ¬ checked) (arm : Arming) (v : Option Nat) (low : Nat) :
    CrossingIs checked arm v low (arm, false) :=
  ⟨⟨nofun, fun hf => absurd hf.1 h⟩, fun hf => absurd hf.1 h, fun hr => absurd hr.1 h, fun _ _ => rfl⟩

theorem crossingIs_checked {checked : Prop} (h : checked) (arm : Arming) (v : Option Nat) (low : Nat) :
    CrossingIs checked arm v low (crossing arm v low) := by
  cases v with
  | none =>
    have hc : crossing arm none low = (arm, false) := by cases arm <;> rfl
    rw [hc]
    have hf : ¬ Falls checked arm none low := fun ⟨_, _, _, hn, _⟩ => nomatch hn
    have hr : ¬ Rises checked arm none low := fun ⟨_, _, _, hn, _⟩ => nomatch hn
    exact ⟨⟨nofun, fun h => absurd h hf⟩, fun h => absurd h hf, fun h => absurd h hr, fun _ _ => rfl⟩
  | some n =>
    cases arm with
    | armed =>
      have hf : Falls checked .armed (some n) low ↔ n < low := by simp [Falls, h]
      have hr : ¬ Rises checked .armed (some n) low := fun h => nomatch h.2.1
      by_cases hn : n < low
      · have hc : crossing .armed (some n) low = (.disarmed, true) := if_pos hn
        rw [hc]
        exact ⟨⟨fun _ => hf.2 hn, fun _ => rfl⟩, fun _ => rfl, fun h => absurd h hr, fun h => absurd (hf.2 hn) h⟩
      · have hc : crossing .armed (some n) low = (.armed, false) := if_neg hn
        rw [hc]
        exact ⟨⟨nofun, fun h => absurd (hf.1 h) hn⟩, fun h => absurd (hf.1 h) hn, fun _ => rfl, fun _ _ => rfl⟩
    | disarmed =>
      have hf : ¬ Falls checked .disarmed (some n) low := fun h => nomatch h.2.1
      have hr : Rises checked .disarmed (some n) low ↔ min (low + 3) 45 ≤ n := by simp [Rises, h]
      by_cases hn : min (low + 3) 45 ≤ n
      · have hc : crossing .disarmed (some n) low = (.armed, false) := if_pos hn
        rw [hc]
        exact ⟨⟨nofun, fun h => absurd h hf⟩, fun h => absurd h hf, fun _ => rfl, fun _ h => absurd (hr.2 hn) h⟩
      · have hc : crossing .disarmed (some n) low = (.disarmed, false) := if_neg hn
        rw [hc]
        exact ⟨⟨nofun, fun h => absurd h hf⟩, fun _ => rfl, fun h => absurd (hr.1 h) hn, fun _ _ => rfl⟩

theorem erleCrossing_is (ch : Channel) :
    CrossingIs (ch.echo.mode ≠ .train) ch.quality.erleArm ch.erle ch.params.erleMin (erleCrossing ch) := by
  unfold erleCrossing
  split
  · next h => exact crossingIs_unchecked (fun hne => hne h) _ _ _
  · next h => exact crossingIs_checked h _ _ _

theorem mseCrossing_is (ch : Channel) :
    CrossingIs (ch.eq.mode = .track) ch.quality.mseArm ch.mse ch.params.mseMin (mseCrossing ch) := by
  unfold mseCrossing
  split
  · next h => exact crossingIs_checked h _ _ _
  · next h => exact crossingIs_unchecked h _ _ _

/-- The state after the armings of the check are set. -/
def rearmed (s : State) (c : ChanId) : State :=
  s.setCh c { s.ch c with quality :=
    { (s.ch c).quality with erleArm := (erleCrossing (s.ch c)).1, mseArm := (mseCrossing (s.ch c)).1 } }

theorem qualityCheck_eq (s : State) (c : ChanId) :
    qualityCheck s c = if (erleCrossing (s.ch c)).2 || (mseCrossing (s.ch c)).2
      then (rearmed s c).raiseCh c
        (.quality (erleCrossing (s.ch c)).2 (mseCrossing (s.ch c)).2 (s.ch c).erle (s.ch c).mse)
      else rearmed s c := rfl

/-- Settles O16: each value's check is one of its three cases, and the notice is raised exactly for a crossing. -/
theorem qualityCrossings : Obligations.QualityCrossings := by
  intro s c ch falls rises erleFalls mseFalls erleRises mseRises
  have he := erleCrossing_is ch
  have hm := mseCrossing_is ch
  have crossed : ∀ {r : Arming × Bool} {p : Prop}, (r.2 = true ↔ p) → ¬ p → r.2 = false := fun h hp =>
    Bool.eq_false_iff.2 fun ht => hp (h.1 ht)
  refine ⟨(erleCrossing ch).1, (mseCrossing ch).1, he.falls, he.rises, he.stands, hm.falls, hm.rises, hm.stands,
    fun h1 h2 => ?_, fun h1 h2 => ?_, fun h1 h2 => ?_, fun h1 h2 => ?_⟩ <;> rw [qualityCheck_eq]
  · rw [crossed he.crossed h1, crossed hm.crossed h2]
    rfl
  · rw [he.crossed.2 h1, crossed hm.crossed h2]
    rfl
  · rw [crossed he.crossed h1, hm.crossed.2 h2]
    rfl
  · rw [he.crossed.2 h1, hm.crossed.2 h2]
    rfl

/-! ### The boundary -/

/-- The pending entry of the block under assembly is made, in every mode but BYPASS (R131, R132). -/
theorem completedChannel_eq (ch : Channel) (dropped : Bool) :
    completedChannel ch dropped = { ch with
      eq := { ch.eq with
        nextSeq := ch.eq.nextSeq + 1
        issued := true
        pendingRefs :=
          if ch.eq.mode = .bypass then ch.eq.pendingRefs
          else if ch.params.refWindow ≤ ch.eq.pendingRefs.length then ch.eq.pendingRefs.drop 1 ++ [entryOf ch]
          else ch.eq.pendingRefs ++ [entryOf ch] }
      counters := { ch.counters with
        eqBlocksDropped := if dropped then ch.counters.eqBlocksDropped + 1 else ch.counters.eqBlocksDropped
        refsMissed :=
          if ch.eq.mode ≠ .bypass ∧ ch.params.refWindow ≤ ch.eq.pendingRefs.length then ch.counters.refsMissed + 1
          else ch.counters.refsMissed } } := by
  by_cases hb : ch.eq.mode = .bypass
  · have hm : makeEntry (consumeSeq ch) (entryOf ch) = consumeSeq ch := if_pos hb
    have hno : ¬ (ch.eq.mode ≠ .bypass ∧ ch.params.refWindow ≤ ch.eq.pendingRefs.length) := fun h => h.1 hb
    rw [completedChannel, hm, if_pos hb, if_neg hno]
    cases dropped <;> rfl
  · have hm : makeEntry (consumeSeq ch) (entryOf ch) = _ := if_neg hb
    rw [completedChannel, hm, if_neg hb]
    by_cases hf : ch.params.refWindow ≤ ch.eq.pendingRefs.length
    · have hf' : decide ((consumeSeq ch).params.refWindow ≤ (consumeSeq ch).eq.pendingRefs.length) = true :=
        decide_eq_true hf
      have hyes : ch.eq.mode ≠ .bypass ∧ ch.params.refWindow ≤ ch.eq.pendingRefs.length := ⟨hb, hf⟩
      rw [if_pos hf, if_pos hyes, hf']
      cases dropped <;> rfl
    · have hf' : decide ((consumeSeq ch).params.refWindow ≤ (consumeSeq ch).eq.pendingRefs.length) = false :=
        decide_eq_false hf
      have hno : ¬ (ch.eq.mode ≠ .bypass ∧ ch.params.refWindow ≤ ch.eq.pendingRefs.length) := fun h => hf h.2
      rw [if_neg hf, if_neg hno, hf']
      cases dropped <;> rfl

/-- What the checks of a boundary leave of its completed block. -/
structure BlockStands (c : ChanId) (s t : State) : Prop where
  eq : (t.ch c).eq = (s.ch c).eq
  dropped : (t.ch c).counters.eqBlocksDropped = (s.ch c).counters.eqBlocksDropped
  missed : (t.ch c).counters.refsMissed = (s.ch c).counters.refsMissed
  dataQueue : t.link.dataQueue = s.link.dataQueue

theorem blockStands_divergenceCheck (s : State) (c : ChanId) : BlockStands c s (divergenceCheck s c) := by
  by_cases hd : strikeDue (s.ch c) = true
  · by_cases hn : 3 ≤ (s.ch c).echo.strikes + 1
    · have hstands : (divergedChannel (s.ch c)).eq = (s.ch c).eq
          ∧ (divergedChannel (s.ch c)).counters = (s.ch c).counters := by
        unfold divergedChannel
        dsimp only
        split <;> exact ⟨rfl, rfl⟩
      have hch : ((s.diverge c).ch c) = _ := (congrArg (·.ch c) (diverge_eq s c)).trans (State.setCh_ch_same s c _)
      rw [divergenceCheck_third hd hn]
      exact ⟨by rw [hch, hstands.1], by rw [hch, hstands.2], by rw [hch, hstands.2], rfl⟩
    · rw [divergenceCheck_strike hd (Nat.not_le.1 hn)]
      constructor <;> simp [setStrikes]
  · rw [divergenceCheck_notDue hd]
    constructor <;> simp [setStrikes]

theorem blockStands_qualityCheck (s : State) (c : ChanId) : BlockStands c s (qualityCheck s c) := by
  have h : BlockStands c s (rearmed s c) := by constructor <;> simp [rearmed]
  rw [qualityCheck_eq]
  split
  · exact ⟨h.eq, h.dropped, h.missed, h.dataQueue⟩
  · exact h

theorem boundary_eq (s : State) (c : ChanId) :
    boundary s c = (qualityCheck (divergenceCheck (completeBlock s c) c) c).setCh c
      (emptyBlock ((qualityCheck (divergenceCheck (completeBlock s c) c) c).ch c)) := rfl

/-- Settles O14: the completion is written out, and the two checks leave what it set. -/
theorem blockBoundaryCompletes : Obligations.BlockBoundaryCompletes := by
  intro s c ch room full entry t pendingRefs dataQueue dropped missed completed checked
  have hcompleted : completeBlock s c = completed := by
    rw [completeBlock_eq]
    by_cases hroom : room
    · rw [if_pos hroom, State.modCh, completedChannel_eq]
      simp only [completed, dataQueue, dropped, missed, pendingRefs, if_pos hroom]
      rfl
    · rw [if_neg hroom, State.modCh, completedChannel_eq]
      simp only [completed, dataQueue, dropped, missed, pendingRefs, if_neg hroom]
      rfl
  have hd := blockStands_divergenceCheck completed c
  have hq := blockStands_qualityCheck (divergenceCheck completed c) c
  have hch : completed.ch c = { ch with
      eq := { ch.eq with nextSeq := ch.eq.nextSeq + 1, issued := true, pendingRefs := pendingRefs }
      counters := { ch.counters with eqBlocksDropped := dropped, refsMissed := missed } } := State.setCh_ch_same s c _
  have ht : t = checked.setCh c (emptyBlock (checked.ch c)) := by
    change boundary s c = _
    rw [boundary_eq, hcompleted]
  have htc : t.ch c = emptyBlock (checked.ch c) := by rw [ht, State.setCh_ch_same]
  refine ⟨ht, ?_, ?_, ?_, ?_, fun d hd => (own_boundary s c).others d hd⟩
  · rw [htc]
    simp only [emptyBlock, hq.eq, hd.eq, hch, checked]
    rfl
  · rw [ht]
    exact (hq.dataQueue.trans hd.dataQueue)
  · rw [htc]
    exact (hq.dropped.trans hd.dropped).trans (by rw [hch])
  · rw [htc]
    exact (hq.missed.trans hd.missed).trans (by rw [hch])

end Sys2Proof.Proofs
end

section
/-! SUPPORT. The stages of a turn one after the other (R44 to R46): the state after each, and what each sets of the channel's
context. -/

namespace Sys2Proof.Proofs
open Sys2Proof.Machine Sys2Proof.Safety Sys2Proof.Laws

/-! ### The states between the stages -/

/-- The history as the turn reads it, by lag, with the turn's own sample written (R44, R65). -/
def turnInput (s : State) (c : ChanId) (sl : SlotId) : Nat → Sample :=
  historyRead (transmitStage s c sl).pageMem (s.ch c).pages (s.ch c).writeIndex

/-- The residual of the turn, from the taps in force at its start (R5, R6). -/
def turnError (s : State) (c : ChanId) (sl : SlotId) (rx : Option Sample) : Sample :=
  turnResidual (s.ch c) (turnInput s c sl) (turnRx (s.ch c) rx)

/-- After stage 3: the receive sample is taken (R44). -/
def receivedState (s : State) (c : ChanId) (sl : SlotId) (rx : Option Sample) : State :=
  (transmitStage s c sl).modCh c fun ch => receiveStage ch rx

/-- After stage 4: the taps and the train count have taken their steps (R45). -/
def echoedState (s : State) (c : ChanId) (sl : SlotId) (rx : Option Sample) : State :=
  echoStage (receivedState s c sl rx) c (turnInput s c sl) (turnError s c sl rx)

/-- After stage 5: the channel's correlator has taken its step (R45). -/
def surveyedState (s : State) (c : ChanId) (sl : SlotId) (rx : Option Sample) : State :=
  surveyStage (echoedState s c sl rx) c (turnInput s c sl) (turnError s c sl rx) rx.isNone

/-- After stage 7: the powers are stepped and the output is in the block (R45). -/
def filteredState (s : State) (c : ChanId) (sl : SlotId) (rx : Option Sample) : State :=
  (surveyedState s c sl rx).modCh c fun ch =>
    eqStage (powerStage ch (turnRx (s.ch c) rx) (turnError s c sl rx)) (turnError s c sl rx)

/-! ### The channel up to the receive sample -/

section
variable (s : State) (c : ChanId) (sl : SlotId) (rx : Option Sample)

/-- The context once its sample is chosen. -/
def chosenChannel : Channel := (chooseSample (s.ch c) (s.dsu.probing c)).channel

theorem receivedState_ch : (receivedState s c sl rx).ch c = receiveStage (chosenChannel s c) rx := by
  rw [receivedState, State.modCh_ch_same, transmitStage_ch_same]
  rfl

theorem receiveStage_some (ch : Channel) (v : Sample) : receiveStage ch (some v) = { ch with heldRx := v } := rfl

theorem receiveStage_none (ch : Channel) : receiveStage ch none = slipChannel ch := rfl

/-- What the choice of the sample leaves of the context: all but the transmit part, two block flags and a counter. -/
theorem chosenChannel_rest : ∃ tx starved probe k, chosenChannel s c = { s.ch c with
    tx := tx
    eq := { (s.ch c).eq with flags := { (s.ch c).eq.flags with starved := starved, probe := probe } }
    counters := { (s.ch c).counters with txSamplesStarved := k } } := by
  unfold chosenChannel
  obtain ⟨-, h⟩ | ⟨-, -, -, h⟩ | ⟨-, -, h⟩ := chooseSample_cases (s.ch c) (s.dsu.probing c) <;> rw [h]
  · exact ⟨_, _, _, _, rfl⟩
  · exact ⟨_, _, _, _, rfl⟩
  · cases hq : (s.ch c).tx.queue with
    | nil => rw [chooseQueue_nil hq]; exact ⟨_, _, _, _, rfl⟩
    | cons x rest => rw [chooseQueue_cons hq]; exact ⟨_, _, _, _, rfl⟩

theorem chosenChannel_echo : (chosenChannel s c).echo = (s.ch c).echo := by
  obtain ⟨_, _, _, _, h⟩ := chosenChannel_rest s c
  rw [h]

theorem receiveStage_heldRx (ch : Channel) : (receiveStage ch rx).heldRx = turnRx ch rx := by
  unfold receiveStage
  cases rx <;> rfl

theorem turnRx_chosen : turnRx (chosenChannel s c) rx = turnRx (s.ch c) rx := by
  obtain ⟨_, _, _, _, h⟩ := chosenChannel_rest s c
  rw [turnRx, h]
  rfl

theorem receivedState_echo : ((receivedState s c sl rx).ch c).echo
    = { (s.ch c).echo with guard := if rx = none then 64 else (s.ch c).echo.guard } := by
  rw [receivedState_ch, ← chosenChannel_echo]
  cases rx <;> rfl

theorem history_received : (receivedState s c sl rx).history c = turnInput s c sl := by
  obtain ⟨_, _, _, _, h⟩ := chosenChannel_rest s c
  have hch : ((receivedState s c sl rx).ch c).pages = (s.ch c).pages
      ∧ ((receivedState s c sl rx).ch c).writeIndex = (s.ch c).writeIndex := by
    rw [receivedState_ch, h]
    cases rx <;> exact ⟨rfl, rfl⟩
  unfold State.history turnInput
  rw [hch.1, hch.2]
  rfl

/-- A turn is its stages, then the boundary of a full block, then its end (R44 to R46). -/
theorem turn_stages : turn s c sl rx = (boundaryIfFull (filteredState s c sl rx) c).modCh c endTurn := by
  have hheld : ((receivedState s c sl rx).ch c).heldRx = turnRx (s.ch c) rx := by
    rw [receivedState_ch, receiveStage_heldRx, turnRx_chosen]
  have herror : turnResidual ((receivedState s c sl rx).ch c) (turnInput s c sl) (turnRx (s.ch c) rx)
      = turnError s c sl rx := by
    unfold turnError turnResidual
    rw [receivedState_echo]
  change filterStages (receivedState s c sl rx) c ((receivedState s c sl rx).ch c).heldRx rx.isNone = _
  unfold filterStages
  dsimp only
  rw [hheld, history_received, herror]
  rfl

/-! ### The frames of the stages -/

theorem own_received : Own [] c (transmitStage s c sl) (receivedState s c sl rx) := own_modCh _ (receiveStage_place _ rx)

theorem own_echoed : Own [0x42] c (receivedState s c sl rx) (echoedState s c sl rx) := own_echoStage _ c _ _

theorem local_surveyed : Local [0x44] c (echoedState s c sl rx) (surveyedState s c sl rx) := local_surveyStage _ c _ _ _

theorem own_filtered : Own [] c (surveyedState s c sl rx) (filteredState s c sl rx) := own_modCh _ (filtered_place _ _ _)

theorem own_turnEnd : Own [0x43, 0x46] c (filteredState s c sl rx) (turn s c sl rx) := by
  rw [turn_stages]
  exact (own_boundaryIfFull _ c).trans (own_modCh _ (endTurn_place _))

theorem echoedState_dsu : (echoedState s c sl rx).dsu = s.dsu := by
  rw [(own_echoed s c sl rx).dsu, (own_received s c sl rx).dsu, transmitStage_eq]
  exact (own_chosen s c).dsu

theorem echoedState_others {d : ChanId} (hd : d ≠ c) : (echoedState s c sl rx).ch d = s.ch d := by
  rw [(own_echoed s c sl rx).others d hd, (own_received s c sl rx).others d hd, transmitStage_ch]
  exact (own_chosen s c).others d hd

theorem turn_dsu : (turn s c sl rx).dsu = (surveyedState s c sl rx).dsu := by
  rw [(own_turnEnd s c sl rx).dsu, (own_filtered s c sl rx).dsu]

theorem turn_ch_others {d : ChanId} (hd : d ≠ c) : (turn s c sl rx).ch d = (surveyedState s c sl rx).ch d := by
  rw [(own_turnEnd s c sl rx).others d hd, (own_filtered s c sl rx).others d hd]

theorem filteredState_ch : (filteredState s c sl rx).ch c
    = eqStage (powerStage ((surveyedState s c sl rx).ch c) (turnRx (s.ch c) rx) (turnError s c sl rx))
        (turnError s c sl rx) := State.modCh_ch_same _ _ _

end

/-! ### The survey stage -/

section
variable {s : State} {c : ChanId} {i : Fin 4} {k : Correlator} (x : Nat → Sample) (r : Sample) (slipped : Bool)

theorem surveyStage_idle (hu : s.dsu.unitOf c = none) : surveyStage s c x r slipped = s := by
  unfold surveyStage
  rw [hu]

theorem surveyStage_held (hu : s.dsu.unitOf c = some i) (hk : s.dsu.unit i = some k) :
    surveyStage s c x r slipped = surveyTurn s c i k x r slipped := by
  unfold surveyStage
  rw [hu]
  dsimp only
  rw [hk]

theorem surveyTurn_leadIn (hp : k.phase = .leadIn) :
    surveyTurn s c i k x r slipped = s.setUnit i (some (leadInTurn k)) := by
  unfold surveyTurn
  rw [hp]

theorem surveyTurn_counts (hp : k.phase = .window) (hw : k.window + 1 ≠ 1024) :
    surveyTurn s c i k x r false = s.setUnit i (some (windowTurn k x r)) := by
  have hne : ¬ (windowTurn k x r).window = Config.windowTurns := hw
  unfold surveyTurn
  rw [hp]
  dsimp only
  rw [if_neg Bool.false_ne_true, if_neg hne]

theorem surveyTurn_ends (hp : k.phase = .window) (hw : k.window + 1 = 1024) :
    surveyTurn s c i k x r false = s.endWindow c i (windowTurn k x r) := by
  have heq : (windowTurn k x r).window = Config.windowTurns := hw
  unfold surveyTurn
  rw [hp]
  dsimp only
  rw [if_neg Bool.false_ne_true, if_pos heq]

theorem surveyTurn_restarts (hp : k.phase = .window) (hr : k.restarts + 1 < 3) :
    surveyTurn s c i k x r true = s.setUnit i (some { restartWindow k with restarts := k.restarts + 1 }) := by
  unfold surveyTurn
  rw [hp]
  dsimp only
  rw [if_pos rfl, if_pos (show k.restarts + 1 < Config.restartLimit from hr)]

theorem surveyTurn_slipped (hp : k.phase = .window) (hr : 3 ≤ k.restarts + 1) :
    surveyTurn s c i k x r true = s.endRunning c i (plainRecord .slipped k.entry (k.restarts + 1)) := by
  unfold surveyTurn
  rw [hp]
  dsimp only
  rw [if_pos rfl, if_neg (show ¬ k.restarts + 1 < Config.restartLimit from Nat.not_lt.2 hr)]

end

/-- A turn ends the survey of this correlator: the window's last turn, or the third slipped one (R150, R153). -/
def EndsSurvey (slipped : Bool) (k : Correlator) : Prop :=
  k.phase = .window ∧ if slipped then 2 ≤ k.restarts else k.window + 1 = 1024

/-- A survey stage that ends no survey at most counts in the channel's own correlator. -/
theorem surveyStage_keeps {s : State} {c : ChanId} (x : Nat → Sample) (r : Sample) {slipped : Bool}
    (h : ∀ i k, s.dsu.unit i = some k → k.entry.channel = c → ¬ EndsSurvey slipped k) :
    surveyStage s c x r slipped = s ∨ ∃ i k k', s.dsu.unitOf c = some i ∧ s.dsu.unit i = some k
      ∧ k.entry.channel = c ∧ surveyStage s c x r slipped = s.setUnit i (some k') := by
  cases hu : s.dsu.unitOf c with
  | none => exact .inl (surveyStage_idle x r slipped hu)
  | some i =>
    obtain ⟨k, hk, hkc⟩ := holds_unitOf hu
    have hno := h i k hk hkc
    have held := surveyStage_held x r slipped hu hk
    cases hp : k.phase with
    | leadIn => exact .inr ⟨i, k, _, rfl, hk, hkc, held.trans (surveyTurn_leadIn x r slipped hp)⟩
    | window =>
      cases slipped with
      | false =>
        have hw : k.window + 1 ≠ 1024 := fun hw => hno ⟨hp, hw⟩
        exact .inr ⟨i, k, _, rfl, hk, hkc, held.trans (surveyTurn_counts x r hp hw)⟩
      | true =>
        have hr : k.restarts + 1 < 3 := Nat.lt_of_not_le fun hr => hno ⟨hp, Nat.le_of_succ_le_succ hr⟩
        exact .inr ⟨i, k, _, rfl, hk, hkc, held.trans (surveyTurn_restarts x r hp hr)⟩

end Sys2Proof.Proofs
end

section
/-! SUPPORT. How a survey ends and its correlator passes on, in the words of the statements (R146, R150, R153, R155, R158). -/

namespace Sys2Proof.Proofs
open Sys2Proof.Machine Sys2Proof.Safety Sys2Proof.Laws

/-! ### The correlator passed on -/

theorem surveyOver_eq (s : State) (c : ChanId) (r : SurveyRecord) : s.recordSurvey c r = surveyOver s c r := rfl

theorem recordWithout_eq (status : SurveyStatus) (e : SurveyEntry) (n : Nat) :
    plainRecord status e n = recordWithout status e n := rfl

theorem passedOn_nil {s : State} (i : Fin 4) (h : s.dsu.queue = []) : passedOn s i = s.setUnit i none := by
  unfold passedOn
  rw [h]
  rfl

theorem passedOn_cons {s : State} (i : Fin 4) {e : SurveyEntry} {rest : List SurveyEntry} (h : s.dsu.queue = e :: rest) :
    passedOn s i = grantHead s i e rest := by
  unfold passedOn
  rw [h]
  rfl

theorem passedOn_rest (s : State) (i : Fin 4) :
    passedOn s i = { s with dsu := (passedOn s i).dsu, channels := (passedOn s i).channels } := by
  cases h : s.dsu.queue with
  | nil => rw [passedOn_nil i h]; rfl
  | cons e rest => rw [passedOn_cons i h]; rfl

theorem passedOn_link (s : State) (i : Fin 4) : (passedOn s i).link = s.link := by rw [passedOn_rest]

/-- Which survey takes the correlator is the survey unit's own matter. -/
theorem passedOn_dsu_congr {s t : State} (i : Fin 4) (h : t.dsu = s.dsu) : (passedOn t i).dsu = (passedOn s i).dsu := by
  cases hq : s.dsu.queue with
  | nil => rw [passedOn_nil i hq, passedOn_nil i (by rw [h, hq]), State.setUnit, State.setUnit, h]
  | cons e rest =>
    rw [passedOn_cons i hq, passedOn_cons i (by rw [h, hq] : t.dsu.queue = e :: rest)]
    simp only [grantHead, State.grant, State.setUnit, State.modCh, State.setCh, h]

theorem passedOn_ch_congr {s t : State} (i : Fin 4) (h : t.dsu = s.dsu) {d : ChanId} (hd : t.ch d = s.ch d) :
    (passedOn t i).ch d = (passedOn s i).ch d := by
  cases hq : s.dsu.queue with
  | nil =>
    rw [passedOn_nil i hq, passedOn_nil i (by rw [h, hq])]
    exact hd
  | cons e rest =>
    rw [passedOn_cons i hq, passedOn_cons i (by rw [h, hq] : t.dsu.queue = e :: rest), grantHead_ch, grantHead_ch]
    split
    · next he => rw [← he, hd]
    · exact hd

/-- A channel that is not queued is granted nothing. -/
theorem passedOn_ch_same {s : State} (i : Fin 4) {c : ChanId} (h : ∀ e ∈ s.dsu.queue, e.channel ≠ c) :
    (passedOn s i).ch c = s.ch c := by
  cases hq : s.dsu.queue with
  | nil => rw [passedOn_nil i hq]; rfl
  | cons e rest =>
    rw [passedOn_cons i hq, grantHead_ch, if_neg fun hc => h e (hq ▸ .head _) hc.symm]

/-- A running survey that ends passes its correlator on, when no other is idle while a survey waits (R146). -/
theorem endRunning_passes {s : State} (hn : NoIdleCorrelator s) (c : ChanId) (i : Fin 4) (r : SurveyRecord) :
    s.endRunning c i r = passedOn (surveyOver s c r) i := runArbiter_freed (s := surveyOver s c r) i hn

theorem surveyOver_ch (s : State) (c d : ChanId) (r : SurveyRecord) :
    (surveyOver s c r).ch d = if d = c then
      { s.ch c with
        survey := .noSurvey
        lastResult := some r
        counters := { (s.ch c).counters with surveysDone := (s.ch c).counters.surveysDone + 1 } }
      else s.ch d := recordSurvey_ch s c d r

/-! ### A survey withdrawn -/

theorem unqueue_absent {s : State} {c : ChanId} (h : ∀ e ∈ s.dsu.queue, e.channel ≠ c) : s.unqueue c = s := by
  rw [State.unqueue, dropEntry_of_forall h]

theorem withdrawSurvey_running {s : State} {c : ChanId} {i : Fin 4} {k : Correlator} (hs : SurveyUnits s)
    (hn : NoIdleCorrelator s) (hk : s.dsu.unit i = some k) (hc : k.entry.channel = c) {t : State} (hd : t.dsu = s.dsu) :
    t.withdrawSurvey c = passedOn t i := by
  have hout : ∀ e ∈ t.dsu.queue, e.channel ≠ c := by
    rw [hd, ← hc]
    exact queue_ne_of_unit hs hk
  have hunit : t.dsu.unitOf c = some i := by rw [hd, ← hc, unitOf_holds hs hk]
  rw [withdrawSurvey_eq, hunit, unqueue_absent hout]
  exact runArbiter_freed i (noIdle_congr hd hn)

theorem withdrawSurvey_waiting {s : State} {c : ChanId} (hs : SurveyUnits s) (h : (s.ch c).survey ≠ .running) {t : State}
    (hd : t.dsu = s.dsu) : t.withdrawSurvey c = t.unqueue c := by
  have hnone : t.dsu.unitOf c = none := by
    rw [hd]
    exact unitOf_eq_none.2 fun i k hk hc => h ((hs.running c).2 ⟨i, k, hk, hc⟩)
  rw [withdrawSurvey_eq, hnone]

theorem queue_absent {s : State} {c : ChanId} (hs : SurveyUnits s) (h : (s.ch c).survey ≠ .queued) :
    ∀ e ∈ s.dsu.queue, e.channel ≠ c := fun e he hc => h ((hs.queued c).2 ⟨e, he, hc⟩)

/-! ### A survey cancelled -/

/-- A channel's entry in the queue is the only one. -/
theorem find_entry {s : State} (hs : SurveyUnits s) {e : SurveyEntry} (he : e ∈ s.dsu.queue) {c : ChanId}
    (hc : e.channel = c) : (s.dsu.queue.find? fun q => decide (q.channel = c)) = some e := by
  cases hf : s.dsu.queue.find? fun q => decide (q.channel = c) with
  | none => exact absurd hc (by simpa using List.find?_eq_none.1 hf e he)
  | some q =>
    have hq : q.channel = c := by simpa using List.find?_some hf
    rw [List.inj_on_of_nodup_map hs.queueOnce (List.mem_of_find?_eq_some hf) he (hq.trans hc.symm)]

theorem cancelRecord_noSurvey {s : State} {c : ChanId} (h : (s.ch c).survey = .noSurvey) : cancelRecord s c = none := by
  unfold cancelRecord
  rw [h]

theorem cancelRecord_queued {s : State} (hs : SurveyUnits s) {e : SurveyEntry} (he : e ∈ s.dsu.queue) {c : ChanId}
    (hc : e.channel = c) : cancelRecord s c = some (recordWithout .cancelled e 0) := by
  unfold cancelRecord
  rw [(hs.queued c).2 ⟨e, he, hc⟩]
  dsimp only
  rw [find_entry hs he hc]
  rfl

theorem cancelRecord_running {s : State} (hs : SurveyUnits s) {i : Fin 4} {k : Correlator} (hk : s.dsu.unit i = some k)
    {c : ChanId} (hc : k.entry.channel = c) :
    cancelRecord s c = some (recordWithout .cancelled k.entry k.restarts) := by
  unfold cancelRecord
  rw [(hs.running c).2 ⟨i, k, hk, hc⟩]
  dsimp only
  rw [← hc, unitOf_holds hs hk, Option.bind_some, hk]
  rfl

theorem cancelSurvey_noSurvey {s : State} {c : ChanId} (h : (s.ch c).survey = .noSurvey) : s.cancelSurvey c = s := by
  unfold State.cancelSurvey
  rw [cancelRecord_noSurvey h]

/-- A queued survey that is cancelled leaves the queue (R155). -/
theorem cancelSurvey_queued {s : State} (hs : SurveyUnits s) {e : SurveyEntry} (he : e ∈ s.dsu.queue) {c : ChanId}
    (hc : e.channel = c) : s.cancelSurvey c = { surveyOver s c (recordWithout .cancelled e 0) with
      dsu := { s.dsu with queue := s.dsu.queue.filter fun q => decide (q.channel ≠ c) } } := by
  have hv : (s.ch c).survey = .queued := (hs.queued c).2 ⟨e, he, hc⟩
  unfold State.cancelSurvey
  rw [cancelRecord_queued hs he hc]
  exact withdrawSurvey_waiting (t := surveyOver s c _) hs (by rw [hv]; nofun) rfl

/-- A running survey that is cancelled passes its correlator on (R146, R155). -/
theorem cancelSurvey_running {s : State} (hs : SurveyUnits s) (hn : NoIdleCorrelator s) {i : Fin 4} {k : Correlator}
    (hk : s.dsu.unit i = some k) {c : ChanId} (hc : k.entry.channel = c) :
    s.cancelSurvey c = passedOn (surveyOver s c (recordWithout .cancelled k.entry k.restarts)) i := by
  unfold State.cancelSurvey
  rw [cancelRecord_running hs hk hc]
  exact withdrawSurvey_running (t := surveyOver s c _) hs hn hk hc rfl

/-! ### The queues of the link have no part in it -/

theorem dequeued_passedOn (s : State) (rest : List Frame) (i : Fin 4) :
    passedOn (dequeued s rest) i = dequeued (passedOn s i) rest := by
  cases h : s.dsu.queue with
  | nil => rw [passedOn_nil i h, passedOn_nil (s := dequeued s rest) i h]; rfl
  | cons e q => rw [passedOn_cons i h, passedOn_cons (s := dequeued s rest) i h]; rfl

theorem surveyUnits_dequeued {s : State} (rest : List Frame) (h : SurveyUnits s) : SurveyUnits (dequeued s rest) :=
  surveyUnits_congr h rfl (fun _ => rfl) fun _ _ => ⟨rfl, id⟩

theorem dequeued_cancelSurvey {s : State} (hs : SurveyUnits s) (hn : NoIdleCorrelator s) (rest : List Frame) (c : ChanId) :
    (dequeued s rest).cancelSurvey c = dequeued (s.cancelSurvey c) rest := by
  have hs' := surveyUnits_dequeued rest hs
  cases hv : (s.ch c).survey with
  | noSurvey => rw [cancelSurvey_noSurvey hv, cancelSurvey_noSurvey (s := dequeued s rest) hv]
  | queued =>
    obtain ⟨e, he, hc⟩ := (hs.queued c).1 hv
    rw [cancelSurvey_queued hs he hc, cancelSurvey_queued hs' he hc]
    rfl
  | running =>
    obtain ⟨i, k, hk, hc⟩ := (hs.running c).1 hv
    rw [cancelSurvey_running hs hn hk hc, cancelSurvey_running hs' hn hk hc, ← dequeued_passedOn]
    rfl

end Sys2Proof.Proofs
end

section
/-! SUPPORT. What a block boundary may change of its channel's context (R46), and what it leaves without a divergence guard. -/

namespace Sys2Proof.Proofs
open Sys2Proof.Machine Sys2Proof.Safety Sys2Proof.Laws

/-- A context after the acts of a boundary: the echo state but guard, then-mode and checkpoint, the block and the pending
references, the armings, and three counters may differ. -/
def BoundaryChange (x y : Channel) : Prop :=
  ∃ (near far : List Sample) (delay count strikes : Nat) (mode : EchoMode) (ext : Option Nat) (outputs : List Sample)
    (positions : List Nat) (flags : BlockFlags) (seq : Word) (issued : Bool) (refs : List PendingEntry)
    (erle mse : Arming) (dropped missed diverged : Count),
    y = { x with
      echo := { x.echo with
        near := near, far := far, delay := delay, mode := mode, trainCount := count, extension := ext, strikes := strikes }
      eq := { x.eq with
        outputs := outputs, positions := positions, flags := flags, nextSeq := seq, issued := issued, pendingRefs := refs }
      quality := { x.quality with erleArm := erle, mseArm := mse }
      counters := { x.counters with
        eqBlocksDropped := dropped, refsMissed := missed, divergeEvents := diverged } }

theorem BoundaryChange.refl (x : Channel) : BoundaryChange x x :=
  ⟨_, _, _, _, _, _, _, _, _, _, _, _, _, _, _, _, _, _, rfl⟩

theorem BoundaryChange.trans {x y z : Channel} (h : BoundaryChange x y) (k : BoundaryChange y z) : BoundaryChange x z := by
  obtain ⟨_, _, _, _, _, _, _, _, _, _, _, _, _, _, _, _, _, _, rfl⟩ := h
  obtain ⟨_, _, _, _, _, _, _, _, _, _, _, _, _, _, _, _, _, _, rfl⟩ := k
  exact ⟨_, _, _, _, _, _, _, _, _, _, _, _, _, _, _, _, _, _, rfl⟩

theorem boundaryChange_completed (ch : Channel) (dropped : Bool) : BoundaryChange ch (completedChannel ch dropped) := by
  rw [completedChannel_eq]
  exact ⟨_, _, _, _, _, _, _, _, _, _, _, _, _, _, _, _, _, _, rfl⟩

theorem boundaryChange_strikes (ch : Channel) (n : Nat) : BoundaryChange ch (setStrikes ch n) :=
  ⟨_, _, _, _, _, _, _, _, _, _, _, _, _, _, _, _, _, _, rfl⟩

theorem boundaryChange_diverged (ch : Channel) (k : Count) :
    BoundaryChange ch { divergedChannel ch with counters := { (divergedChannel ch).counters with divergeEvents := k } } := by
  cases h : ch.echo.checkpoint with
  | none => rw [diverged_zero h]; exact ⟨_, _, _, _, _, _, _, _, _, _, _, _, _, _, _, _, _, _, rfl⟩
  | some p => rw [diverged_checkpoint h]; exact ⟨_, _, _, _, _, _, _, _, _, _, _, _, _, _, _, _, _, _, rfl⟩

theorem boundaryChange_completeBlock (s : State) (c : ChanId) : BoundaryChange (s.ch c) ((completeBlock s c).ch c) := by
  have h : ∀ dropped, ((s.modCh c fun ch => completedChannel ch dropped).ch c) = completedChannel (s.ch c) dropped :=
    fun _ => State.modCh_ch_same _ _ _
  rw [completeBlock_eq]
  split
  · rw [State.modLink_ch, h]
    exact boundaryChange_completed _ _
  · rw [h]
    exact boundaryChange_completed _ _

theorem boundaryChange_divergenceCheck (s : State) (c : ChanId) :
    BoundaryChange (s.ch c) ((divergenceCheck s c).ch c) := by
  by_cases hd : strikeDue (s.ch c) = true
  · by_cases hn : 3 ≤ (s.ch c).echo.strikes + 1
    · rw [divergenceCheck_third hd hn, diverge_eq, State.raiseCh_ch, State.setCh_ch_same]
      exact boundaryChange_diverged _ _
    · rw [divergenceCheck_strike hd (Nat.not_le.1 hn), State.setCh_ch_same]
      exact boundaryChange_strikes _ _
  · rw [divergenceCheck_notDue hd, State.setCh_ch_same]
    exact boundaryChange_strikes _ _

theorem qualityCheck_ch (s : State) (c : ChanId) : (qualityCheck s c).ch c = { s.ch c with quality :=
    { (s.ch c).quality with erleArm := (erleCrossing (s.ch c)).1, mseArm := (mseCrossing (s.ch c)).1 } } := by
  have h : (rearmed s c).ch c = _ := State.setCh_ch_same _ _ _
  rw [qualityCheck_eq]
  split
  · rw [State.raiseCh_ch, h]
  · rw [h]

theorem boundary_ch (s : State) (c : ChanId) :
    (boundary s c).ch c = emptyBlock ((qualityCheck (divergenceCheck (completeBlock s c) c) c).ch c) := by
  rw [boundary_eq, State.setCh_ch_same]

theorem boundaryChange_boundary (s : State) (c : ChanId) : BoundaryChange (s.ch c) ((boundary s c).ch c) := by
  have hchecked := (boundaryChange_completeBlock s c).trans (boundaryChange_divergenceCheck (completeBlock s c) c)
  rw [boundary_ch, qualityCheck_ch]
  exact hchecked.trans ⟨_, _, _, _, _, _, _, _, _, _, _, _, _, _, _, _, _, _, rfl⟩

theorem completeBlock_echo (s : State) (c : ChanId) :
    ((completeBlock s c).ch c).echo = (s.ch c).echo ∧ ((completeBlock s c).ch c).params = (s.ch c).params := by
  have h : ∀ dropped, ((s.modCh c fun ch => completedChannel ch dropped).ch c) = completedChannel (s.ch c) dropped :=
    fun _ => State.modCh_ch_same _ _ _
  rw [completeBlock_eq]
  split
  · rw [State.modLink_ch, h, completedChannel_eq]
    exact ⟨rfl, rfl⟩
  · rw [h, completedChannel_eq]
    exact ⟨rfl, rfl⟩

/-- Without the guard flag a boundary leaves the echo state but for the strikes, which are 0 (R103). -/
theorem boundary_noGuard {s : State} {c : ChanId} (h : (s.ch c).params.divergenceGuard = false) :
    ((boundary s c).ch c).echo = { (s.ch c).echo with strikes := 0 } := by
  obtain ⟨hecho, hparams⟩ := completeBlock_echo s c
  have hno : ¬ strikeDue ((completeBlock s c).ch c) = true := fun hd => by
    have hguard := ((strikeDue_iff _).1 hd).1
    rw [hparams, h] at hguard
    cases hguard
  rw [boundary_ch, qualityCheck_ch, divergenceCheck_notDue hno, State.setCh_ch_same]
  exact congrArg (fun e : EchoPart => { e with strikes := 0 }) hecho

end Sys2Proof.Proofs
end

section
/-! SUPPORT. The channel of a turn after each stage (R44 to R46): exactly where one stage sets it, and the parts the stages
together may have set. -/

namespace Sys2Proof.Proofs
open Sys2Proof.Machine Sys2Proof.Safety Sys2Proof.Laws

/-! ### The echo stage -/

/-- The context after the train count step of a turn that began in TRAIN (R95 to R97). -/
def trainedChannel (ch : Channel) : Channel :=
  if ch.echo.trainCount - 1 = 0 then
    match ch.echo.extension with
    | none =>
      { expiredTraining (countTraining ch) with
        counters := { ch.counters with trainCompletions := ch.counters.trainCompletions + 1 } }
    | some n => takenExtension (countTraining ch) n
  else countTraining ch

/-- The context after stage 4 (R45). -/
def echoedChannel (ch : Channel) (x : Nat → Sample) (r : Sample) : Channel :=
  if ch.echo.mode = .train then trainedChannel (echoUpdate ch x r) else echoUpdate ch x r

theorem expiredTraining_counters (ch : Channel) : (expiredTraining ch).counters = ch.counters := by
  unfold expiredTraining
  dsimp only
  split <;> rfl

theorem expireTraining_ch (s : State) (c : ChanId) : (s.expireTraining c).ch c = { expiredTraining (s.ch c) with
    counters := { (s.ch c).counters with trainCompletions := (s.ch c).counters.trainCompletions + 1 } } := by
  unfold State.expireTraining
  dsimp only
  rw [State.count, State.modCh_ch_same, State.raiseCh_ch, State.modCh_ch_same, expiredTraining_counters]

theorem trainStep_ch (s : State) (c : ChanId) : (s.trainStep c).ch c = trainedChannel (s.ch c) := by
  have hcount : (s.modCh c countTraining).ch c = countTraining (s.ch c) := State.modCh_ch_same _ _ _
  unfold State.trainStep trainedChannel
  dsimp only
  rw [hcount]
  by_cases hz : (s.ch c).echo.trainCount - 1 = 0
  · rw [if_pos (show (countTraining (s.ch c)).echo.trainCount = 0 from hz), if_pos hz]
    unfold State.trainingAtZero
    rw [hcount]
    cases he : (s.ch c).echo.extension with
    | none =>
      have he' : (countTraining (s.ch c)).echo.extension = none := he
      rw [he', expireTraining_ch, hcount]
      rfl
    | some n =>
      have he' : (countTraining (s.ch c)).echo.extension = some n := he
      rw [he']
      dsimp only
      rw [State.modCh_ch_same, hcount]
  · rw [if_neg (show ¬ (countTraining (s.ch c)).echo.trainCount = 0 from hz), if_neg hz, hcount]

theorem echoStage_ch (s : State) (c : ChanId) (x : Nat → Sample) (r : Sample) :
    (echoStage s c x r).ch c = echoedChannel (s.ch c) x r := by
  have hupdate : (s.modCh c fun ch => echoUpdate ch x r).ch c = echoUpdate (s.ch c) x r := State.modCh_ch_same _ _ _
  unfold echoStage echoedChannel
  dsimp only
  split
  · rw [trainStep_ch, hupdate]
  · exact hupdate

theorem echoedState_ch (s : State) (c : ChanId) (sl : SlotId) (rx : Option Sample) :
    (echoedState s c sl rx).ch c
      = echoedChannel (receiveStage (chosenChannel s c) rx) (turnInput s c sl) (turnError s c sl rx) := by
  rw [echoedState, echoStage_ch, receivedState_ch]

/-! ### The survey stage -/

/-- What the survey unit may set of a context in a turn of its channel (R150, R151, R153). -/
def SurveyChange (x y : Channel) : Prop :=
  ∃ (survey : SurveyState) (last : Option SurveyRecord) (done : Count) (probe : BitVec 15) (delay : Nat) (far : List Sample),
    y = { x with
      survey := survey
      lastResult := last
      counters := { x.counters with surveysDone := done }
      tx := { x.tx with probe := probe }
      echo := { x.echo with delay := delay, far := far } }

theorem SurveyChange.refl (x : Channel) : SurveyChange x x := ⟨_, _, _, _, _, _, rfl⟩

theorem SurveyChange.trans {x y z : Channel} (h : SurveyChange x y) (k : SurveyChange y z) : SurveyChange x z := by
  obtain ⟨_, _, _, _, _, _, rfl⟩ := h
  obtain ⟨_, _, _, _, _, _, rfl⟩ := k
  exact ⟨_, _, _, _, _, _, rfl⟩

theorem surveyChange_granted {x y : Channel} (h : GrantedTo x y) : SurveyChange x y := by
  obtain ⟨_, _, rfl⟩ := h
  exact ⟨_, _, _, _, _, _, rfl⟩

theorem windowApplied_eq (ch : Channel) (k : Correlator) :
    windowApplied ch k = match (windowRecord ch k).appliedDelay with
      | some _ => applyResult ch (surveyFigures k.entry.lo k.sums).peakLag
      | none => ch := by
  unfold windowApplied
  cases (windowRecord ch k).appliedDelay <;> rfl

theorem surveyChange_windowApplied (ch : Channel) (k : Correlator) : SurveyChange ch (windowApplied ch k) := by
  rw [windowApplied_eq]
  split
  · exact ⟨_, _, _, _, _, _, rfl⟩
  · exact .refl ch

/-- The context after its running survey has ended, but for a grant of its own (R150, R153). -/
theorem endRunning_granted (s : State) (c : ChanId) (i : Fin 4) (r : SurveyRecord) :
    GrantedTo ((surveyOver s c r).ch c) ((s.endRunning c i r).ch c) :=
  ((Granted.unit (surveyOver s c r) i none).trans (granted_runArbiter _)).chans c

theorem surveyChange_endRunning (s : State) (c : ChanId) (i : Fin 4) (r : SurveyRecord) :
    SurveyChange (s.ch c) ((s.endRunning c i r).ch c) := by
  refine .trans ?_ (surveyChange_granted (endRunning_granted s c i r))
  rw [surveyOver_ch, if_pos rfl]
  exact ⟨_, _, _, _, _, _, rfl⟩

theorem surveyChange_surveyStage (s : State) (c : ChanId) (x : Nat → Sample) (r : Sample) (slipped : Bool) :
    SurveyChange (s.ch c) ((surveyStage s c x r slipped).ch c) := by
  cases hu : s.dsu.unitOf c with
  | none => rw [surveyStage_idle x r slipped hu]; exact .refl _
  | some i =>
    obtain ⟨k, hk, -⟩ := holds_unitOf hu
    rw [surveyStage_held x r slipped hu hk]
    cases hp : k.phase with
    | leadIn => rw [surveyTurn_leadIn x r slipped hp]; exact .refl _
    | window =>
      cases slipped with
      | false =>
        by_cases hw : k.window + 1 = 1024
        · rw [surveyTurn_ends x r hp hw, endWindow_eq]
          refine .trans (surveyChange_windowApplied (s.ch c) (windowTurn k x r)) ?_
          have h := surveyChange_endRunning (s.setCh c (windowApplied (s.ch c) (windowTurn k x r))) c i
            (windowRecord (s.ch c) (windowTurn k x r))
          rwa [State.setCh_ch_same] at h
        · rw [surveyTurn_counts x r hp hw]
          exact .refl _
      | true =>
        by_cases hr : k.restarts + 1 < 3
        · rw [surveyTurn_restarts x r hp hr]
          exact .refl _
        · rw [surveyTurn_slipped x r hp (Nat.not_lt.1 hr)]
          exact surveyChange_endRunning s c i _

theorem surveyChange_surveyed (s : State) (c : ChanId) (sl : SlotId) (rx : Option Sample) :
    SurveyChange ((echoedState s c sl rx).ch c) ((surveyedState s c sl rx).ch c) := surveyChange_surveyStage _ c _ _ _

/-! ### All stages -/

/-- The parts of a context that the stages of a turn may set (R44, R45). -/
def StagesChange (x y : Channel) : Prop :=
  ∃ (index : Nat) (held : Sample) (tx : TxPart) (survey : SurveyState) (last : Option SurveyRecord)
    (near far : List Sample) (delay guard count : Nat) (mode : EchoMode) (ext : Option Nat)
    (checkpoint : Option Machine.Checkpoint) (ring : SampleMem) (outputs : List Sample) (positions : List Nat)
    (flags : BlockFlags) (pRx pRes slips : Nat) (starved completions done : Count),
    y = { x with
      writeIndex := index, heldRx := held, tx := tx, survey := survey, lastResult := last
      echo := { x.echo with
        near := near, far := far, delay := delay, mode := mode, guard := guard
        trainCount := count, extension := ext, checkpoint := checkpoint }
      eq := { x.eq with ring := ring, outputs := outputs, positions := positions, flags := flags }
      quality := { x.quality with pRx := pRx, pRes := pRes, slipTurns := slips }
      counters := { x.counters with
        txSamplesStarved := starved, trainCompletions := completions, surveysDone := done } }

theorem StagesChange.trans {x y z : Channel} (h : StagesChange x y) (k : StagesChange y z) : StagesChange x z := by
  obtain ⟨_, _, _, _, _, _, _, _, _, _, _, _, _, _, _, _, _, _, _, _, _, _, _, rfl⟩ := h
  obtain ⟨_, _, _, _, _, _, _, _, _, _, _, _, _, _, _, _, _, _, _, _, _, _, _, rfl⟩ := k
  exact ⟨_, _, _, _, _, _, _, _, _, _, _, _, _, _, _, _, _, _, _, _, _, _, _, rfl⟩

theorem stagesChange_refl (x : Channel) : StagesChange x x :=
  ⟨_, _, _, _, _, _, _, _, _, _, _, _, _, _, _, _, _, _, _, _, _, _, _, rfl⟩

theorem stagesChange_chosen (s : State) (c : ChanId) : StagesChange (s.ch c) (chosenChannel s c) := by
  obtain ⟨_, _, _, _, h⟩ := chosenChannel_rest s c
  rw [h]
  exact ⟨_, _, _, _, _, _, _, _, _, _, _, _, _, _, _, _, _, _, _, _, _, _, _, rfl⟩

theorem stagesChange_receive (ch : Channel) (rx : Option Sample) : StagesChange ch (receiveStage ch rx) := by
  cases rx <;> exact ⟨_, _, _, _, _, _, _, _, _, _, _, _, _, _, _, _, _, _, _, _, _, _, _, rfl⟩

theorem stagesChange_echoUpdate (ch : Channel) (x : Nat → Sample) (r : Sample) : StagesChange ch (echoUpdate ch x r) := by
  unfold echoUpdate
  split
  · exact ⟨_, _, _, _, _, _, _, _, _, _, _, _, _, _, _, _, _, _, _, _, _, _, _, rfl⟩
  · exact stagesChange_refl ch

theorem stagesChange_trained (ch : Channel) : StagesChange ch (trainedChannel ch) := by
  unfold trainedChannel
  split
  · split
    · unfold expiredTraining
      dsimp only
      split <;> exact ⟨_, _, _, _, _, _, _, _, _, _, _, _, _, _, _, _, _, _, _, _, _, _, _, rfl⟩
    · exact ⟨_, _, _, _, _, _, _, _, _, _, _, _, _, _, _, _, _, _, _, _, _, _, _, rfl⟩
  · exact ⟨_, _, _, _, _, _, _, _, _, _, _, _, _, _, _, _, _, _, _, _, _, _, _, rfl⟩

theorem stagesChange_echoed (ch : Channel) (x : Nat → Sample) (r : Sample) : StagesChange ch (echoedChannel ch x r) := by
  unfold echoedChannel
  split
  · exact (stagesChange_echoUpdate ch x r).trans (stagesChange_trained _)
  · exact stagesChange_echoUpdate ch x r

theorem stagesChange_survey {x y : Channel} (h : SurveyChange x y) : StagesChange x y := by
  obtain ⟨_, _, _, _, _, _, rfl⟩ := h
  exact ⟨_, _, _, _, _, _, _, _, _, _, _, _, _, _, _, _, _, _, _, _, _, _, _, rfl⟩

theorem stagesChange_filter (ch : Channel) (rx r : Sample) : StagesChange ch (eqStage (powerStage ch rx r) r) :=
  ⟨_, _, _, _, _, _, _, _, _, _, _, _, _, _, _, _, _, _, _, _, _, _, _, rfl⟩

theorem stagesChange_endTurn (ch : Channel) : StagesChange ch (endTurn ch) :=
  ⟨_, _, _, _, _, _, _, _, _, _, _, _, _, _, _, _, _, _, _, _, _, _, _, rfl⟩

section
variable (s : State) (c : ChanId) (sl : SlotId) (rx : Option Sample)

theorem stagesChange_echoedState : StagesChange (s.ch c) ((echoedState s c sl rx).ch c) := by
  rw [echoedState_ch]
  exact ((stagesChange_chosen s c).trans (stagesChange_receive _ rx)).trans (stagesChange_echoed _ _ _)

theorem stagesChange_filteredState : StagesChange (s.ch c) ((filteredState s c sl rx).ch c) := by
  rw [filteredState_ch]
  exact ((stagesChange_echoedState s c sl rx).trans (stagesChange_survey (surveyChange_surveyed s c sl rx))).trans
    (stagesChange_filter _ _ _)

/-! ### The block and the powers -/

/-- What stage 3 and the choice of the sample leave of the parts that stages 6 and 7 read. -/
theorem echoedState_block : ((echoedState s c sl rx).ch c).eq.outputs = (s.ch c).eq.outputs
    ∧ ((echoedState s c sl rx).ch c).eq.positions = (s.ch c).eq.positions
    ∧ ((echoedState s c sl rx).ch c).eq.ring = (s.ch c).eq.ring
    ∧ ((echoedState s c sl rx).ch c).writeIndex = (s.ch c).writeIndex
    ∧ ((echoedState s c sl rx).ch c).heldRx = turnRx (s.ch c) rx
    ∧ ((echoedState s c sl rx).ch c).quality = { (s.ch c).quality with
        slipTurns := (if rx = none then min ((s.ch c).quality.slipTurns + 1) 65535 else (s.ch c).quality.slipTurns) } := by
  have hecho : ∀ (ch : Channel) (x : Nat → Sample) (r : Sample),
      (echoedChannel ch x r).eq.outputs = ch.eq.outputs ∧ (echoedChannel ch x r).eq.positions = ch.eq.positions
        ∧ (echoedChannel ch x r).eq.ring = ch.eq.ring ∧ (echoedChannel ch x r).writeIndex = ch.writeIndex
        ∧ (echoedChannel ch x r).heldRx = ch.heldRx ∧ (echoedChannel ch x r).quality = ch.quality := by
    intro ch x r
    unfold echoedChannel trainedChannel expiredTraining echoUpdate
    dsimp only
    repeat' split
    all_goals exact ⟨rfl, rfl, rfl, rfl, rfl, rfl⟩
  obtain ⟨_, _, _, _, hchosen⟩ := chosenChannel_rest s c
  obtain ⟨h1, h2, h3, h4, h5, h6⟩ := hecho (receiveStage (chosenChannel s c) rx) (turnInput s c sl) (turnError s c sl rx)
  rw [echoedState_ch, h1, h2, h3, h4, h5, h6, receiveStage_heldRx, turnRx_chosen, hchosen]
  cases rx <;> exact ⟨rfl, rfl, rfl, rfl, rfl, rfl⟩

theorem filteredState_outputs : ((filteredState s c sl rx).ch c).eq.outputs.length = (s.ch c).eq.outputs.length + 1 := by
  obtain ⟨_, _, _, _, _, _, hsurvey⟩ := surveyChange_surveyed s c sl rx
  rw [filteredState_ch, hsurvey]
  simp [eqStage, powerStage, (echoedState_block s c sl rx).1]

/-- Inside a block the turn ends with its filters (R46). -/
theorem turn_ch_inside (h : (s.ch c).eq.outputs.length + 1 ≠ (s.ch c).params.blockSize) :
    (turn s c sl rx).ch c = endTurn ((filteredState s c sl rx).ch c) := by
  have hparams : ((filteredState s c sl rx).ch c).params = (s.ch c).params := by
    obtain ⟨_, _, _, _, _, _, _, _, _, _, _, _, _, _, _, _, _, _, _, _, _, _, _, hst⟩ := stagesChange_filteredState s c sl rx
    rw [hst]
  have hnot : ¬ ((filteredState s c sl rx).ch c).eq.outputs.length = ((filteredState s c sl rx).ch c).params.blockSize := by
    rw [filteredState_outputs, hparams]
    exact h
  rw [turn_stages, State.modCh_ch_same, boundaryIfFull, if_neg hnot]

/-- A turn ends with a boundary or without one (R46). -/
theorem turn_ch : ∃ y, BoundaryChange ((filteredState s c sl rx).ch c) y ∧ (turn s c sl rx).ch c = endTurn y := by
  rw [turn_stages, State.modCh_ch_same, boundaryIfFull]
  split
  · exact ⟨_, boundaryChange_boundary _ c, rfl⟩
  · exact ⟨_, .refl _, rfl⟩

theorem endTurn_echo (ch : Channel) : (endTurn ch).echo = { ch.echo with guard := ch.echo.guard - 1 } := rfl

/-- Without a boundary, or with one that has no guard to check, the stages' echo state stands but for strikes and guard. -/
theorem turn_echo (h : (s.ch c).eq.outputs.length + 1 ≠ (s.ch c).params.blockSize ∨ (s.ch c).params.divergenceGuard = false) :
    ∃ n, ((turn s c sl rx).ch c).echo = { ((filteredState s c sl rx).ch c).echo with
      strikes := n, guard := ((filteredState s c sl rx).ch c).echo.guard - 1 } := by
  have hguard : ((filteredState s c sl rx).ch c).params = (s.ch c).params := by
    obtain ⟨_, _, _, _, _, _, _, _, _, _, _, _, _, _, _, _, _, _, _, _, _, _, _, hst⟩ := stagesChange_filteredState s c sl rx
    rw [hst]
  rw [turn_stages, State.modCh_ch_same, boundaryIfFull]
  split
  · next hfull =>
    rw [filteredState_outputs, hguard] at hfull
    have hoff : ((filteredState s c sl rx).ch c).params.divergenceGuard = false := by
      rw [hguard]
      exact h.resolve_left fun hne => hne hfull
    exact ⟨0, by rw [endTurn_echo, boundary_noGuard hoff]⟩
  · exact ⟨_, endTurn_echo _⟩

end

end Sys2Proof.Proofs
end

section
/-! PROOF. Counts that have run out (log entry 5): the train count (R96, R97), the drain's frames (R50), the lead-in (R148)
and the window (R150), each as a row of its own, and the survey's as the turns run them. -/

namespace Sys2Proof.Proofs
open Sys2Proof.Machine Sys2Proof.Safety Sys2Proof.Laws

/-! ### The train count and the drain -/

theorem done_raiseCh (s : State) (c : ChanId) (body : NoticeBody) :
    (s.raiseCh c body).done = .next (noticed s (chanByte c) body) := by
  rw [State.done_eq]
  exact congrArg _ (settle_raise s (chanByte c) body)

theorem done_self {s : State} (h : AttnFollows s) : s.done = .next s := by rw [State.done_eq, settle_self h]

/-- The context of a training that expires, and its one notice (R96, R118). -/
theorem expireTraining_eq (s : State) (c : ChanId) :
    s.expireTraining c = (s.setCh c { expiredTraining (s.ch c) with
        counters := { (s.ch c).counters with trainCompletions := (s.ch c).counters.trainCompletions + 1 } }).raiseCh c
      (.trainDone (s.ch c).echo.thenMode (s.ch c).params.autoCheckpoint) := by
  have hsame : (s.modCh c expiredTraining).ch c = expiredTraining (s.ch c) := State.modCh_ch_same _ _ _
  change ((s.modCh c expiredTraining).modCh c fun ch => { ch with counters :=
    { ch.counters with trainCompletions := ch.counters.trainCompletions + 1 } }).raiseCh c _ = _
  rw [State.modCh, hsame, State.modCh, State.setCh_setCh, expiredTraining_counters]

theorem expiredTraining_eq (ch : Channel) : expiredTraining ch = { ch with echo := { ch.echo with
    mode := ch.echo.thenMode
    trainCount := 0
    checkpoint :=
      (if ch.params.autoCheckpoint then some ⟨ch.echo.near, ch.echo.far, ch.echo.delay⟩ else ch.echo.checkpoint) } } := by
  unfold expiredTraining
  cases ch.params.autoCheckpoint <;> rfl

/-- Settles O17: the row with no extension expires the training, the row with one takes it. -/
theorem trainCountAtZero : Obligations.TrainCountAtZero := by
  intro s c hhigh hattn ho hm hz
  refine ⟨fun hext => ?_, fun n hext => ?_⟩
  · change execTrainExpiry c s = _
    rw [execTrainExpiry, unlessHeld_high _ _ hhigh, if_pos ⟨ho, hm, hz, hext⟩, expireTraining_eq, done_raiseCh,
      expiredTraining_eq]
  · change execExtensionTaken c s = _
    rw [execExtensionTaken, unlessHeld_high _ _ hhigh, hext]
    dsimp only
    rw [if_pos ⟨ho, hm, hz⟩]
    exact done_self (s := s.setCh c (takenExtension (s.ch c) n)) hattn

/-- A drain that ends with entries left: they are counted missed, and the notice says their number (R50 to R52). -/
theorem endDrainExpiring_eq (s : State) (c : ChanId) (cause : DrainCause) :
    s.endDrainExpiring c cause = (s.setCh c { s.ch c with
        state := .halted
        eq := { (s.ch c).eq with pendingRefs := [] }
        counters := { (s.ch c).counters with
          refsMissed := (s.ch c).counters.refsMissed + BitVec.ofNat 32 (s.ch c).eq.pendingRefs.length } }).raiseCh c
      (.drained cause (s.ch c).eq.pendingRefs.length) := by
  have hsame : (s.expireAll c).ch c = _ := State.modCh_ch_same _ _ _
  rw [State.endDrainExpiring, State.endDrain, State.modCh, hsame, State.expireAll, State.modCh, State.setCh_setCh]

/-- Settles O20: the row's guard holds, and the drain ends with its entries. -/
theorem drainTimeoutHalts : Obligations.DrainTimeoutHalts := by
  intro s c hhigh hd hz
  change execDrainTimeout c s = _
  rw [execDrainTimeout, unlessHeld_high _ _ hhigh, if_pos ⟨hd, hz⟩, State.timeoutDrain, endDrainExpiring_eq, done_raiseCh]

/-! ### The lead-in -/

theorem unitFor_eq {s : State} {c : ChanId} {i : Fin 4} {k : Correlator} (hu : s.dsu.unitOf c = some i)
    (hk : s.dsu.unit i = some k) : s.unitFor c = some (i, k) := by
  rw [State.unitFor, hu, Option.bind_some, hk]
  rfl

/-- The correlator after a lead-in turn (R148). -/
theorem leadInTurn_eq (k : Correlator) : leadInTurn k
    = if k.leadIn + 1 = 2048 then { k with leadIn := 2048, phase := .window, window := 0 }
      else { k with leadIn := k.leadIn + 1 } := by
  unfold leadInTurn leadInDone
  dsimp only [Config.leadInTurns]
  split
  · next h => rw [h]
  · rfl

theorem surveyOver_dsu (s : State) (c : ChanId) (r : SurveyRecord) : (surveyOver s c r).dsu = s.dsu := rfl

section
variable {s : State} {i : Fin 4} {k : Correlator} (sl : SlotId) (rx : Option Sample)

/-- The survey stage of the turn of a channel whose survey runs. -/
theorem surveyedState_held (hs : SurveyUnits s) (hk : s.dsu.unit i = some k) :
    surveyedState s k.entry.channel sl rx = surveyTurn (echoedState s k.entry.channel sl rx) k.entry.channel i k
      (turnInput s k.entry.channel sl) (turnError s k.entry.channel sl rx) rx.isNone := by
  have hdsu := echoedState_dsu s k.entry.channel sl rx
  exact surveyStage_held _ _ _ (by rw [hdsu, unitOf_holds hs hk]) (by rw [hdsu, hk])

/-- The survey unit after a turn that only counts in the channel's own correlator. -/
theorem turn_dsu_counts {k' : Correlator}
    (h : surveyedState s k.entry.channel sl rx = (echoedState s k.entry.channel sl rx).setUnit i (some k')) :
    (turn s k.entry.channel sl rx).dsu = ⟨s.dsu.queue, s.dsu.correlators.set i.val (some k')⟩
      ∧ ∀ d, d ≠ k.entry.channel → (turn s k.entry.channel sl rx).ch d = s.ch d := by
  refine ⟨?_, fun d hd => ?_⟩
  · rw [turn_dsu, h, State.setUnit, echoedState_dsu]
  · rw [turn_ch_others s _ sl rx hd, h, State.setUnit_ch, echoedState_others s _ sl rx hd]

theorem turn_leadIn (hs : SurveyUnits s) (hk : s.dsu.unit i = some k) (hp : k.phase = .leadIn) :
    (turn s k.entry.channel sl rx).dsu = ⟨s.dsu.queue, s.dsu.correlators.set i.val (some (leadInTurn k))⟩
      ∧ ∀ d, d ≠ k.entry.channel → (turn s k.entry.channel sl rx).ch d = s.ch d :=
  turn_dsu_counts sl rx ((surveyedState_held sl rx hs hk).trans (surveyTurn_leadIn _ _ _ hp))

/-- The survey unit after a turn in which a running survey ends with a record (R146, R150, R153). -/
theorem turn_dsu_ends (hn : NoIdleCorrelator s) {x : Channel} {r : SurveyRecord}
    (h : surveyedState s k.entry.channel sl rx
      = ((echoedState s k.entry.channel sl rx).setCh k.entry.channel x).endRunning k.entry.channel i r) :
    (turn s k.entry.channel sl rx).dsu = (passedOn s i).dsu
      ∧ ∀ d, d ≠ k.entry.channel → (turn s k.entry.channel sl rx).ch d = (passedOn s i).ch d := by
  have hdsu := echoedState_dsu s k.entry.channel sl rx
  have hset : ((echoedState s k.entry.channel sl rx).setCh k.entry.channel x).dsu = s.dsu := by rw [State.setCh_dsu, hdsu]
  have hpass := h.trans (endRunning_passes (noIdle_congr hset hn) k.entry.channel i r)
  refine ⟨?_, fun d hd => ?_⟩
  · rw [turn_dsu, hpass]
    exact passedOn_dsu_congr i (surveyOver_dsu _ _ _ |>.trans hset)
  · rw [turn_ch_others s _ sl rx hd, hpass]
    refine passedOn_ch_congr i (surveyOver_dsu _ _ _ |>.trans hset) ?_
    rw [surveyOver_ch, if_neg hd, State.setCh_ch_ne _ _ _ _ hd, echoedState_others s _ sl rx hd]

end

/-- Settles O18: the row opens the window, and so does the turn that counts to 2048. -/
theorem leadInEndOpensWindow : Obligations.LeadInEndOpensWindow := by
  refine ⟨fun s c i k hhigh hattn ho hu hk hp hn => ?_, fun s sl rx i k hs hk hp => ?_⟩
  · change execLeadInEnd c s = _
    rw [execLeadInEnd, unlessHeld_high _ _ hhigh, unitFor_eq hu hk]
    dsimp only
    rw [if_pos ⟨ho, hp, hn⟩]
    exact done_self (s := s.setUnit i (some (leadInDone k))) hattn
  · rw [(turn_leadIn sl rx hs hk hp).1, leadInTurn_eq]

/-! ### The window -/

/-- The record of a window in the statements' words (R150, R152). -/
theorem windowRecord_eq (ch : Channel) (k : Correlator) : windowRecord ch k =
    { status := if ch.params.surveyMinConf ≤ (surveyFigures k.entry.lo k.sums).confidence then .found else .weak
      lo := k.entry.lo
      hi := k.entry.hi
      lagCount := k.entry.lagCount
      probe := k.entry.probe
      restarts := k.restarts
      figures := some (surveyFigures k.entry.lo k.sums)
      appliedDelay :=
        (if ch.params.surveyMinConf ≤ (surveyFigures k.entry.lo k.sums).confidence ∧ k.entry.apply = true
          then some (min ch.params.maxDelay ((surveyFigures k.entry.lo k.sums).peakLag - 8)) else none) } := by
  unfold windowRecord
  simp only [decide_eq_true_eq, Bool.and_eq_true]
  rfl

/-- A FOUND result with APPLY sets D and zeroes the far taps; any other leaves them (R151). -/
theorem windowApplied_echo (ch : Channel) (k : Correlator) : windowApplied ch k = { ch with echo := { ch.echo with
    delay :=
      (if ch.params.surveyMinConf ≤ (surveyFigures k.entry.lo k.sums).confidence ∧ k.entry.apply = true
        then min ch.params.maxDelay ((surveyFigures k.entry.lo k.sums).peakLag - 8) else ch.echo.delay)
    far :=
      (if ch.params.surveyMinConf ≤ (surveyFigures k.entry.lo k.sums).confidence ∧ k.entry.apply = true
        then List.replicate ch.echo.far.length 0 else ch.echo.far) } } := by
  rw [windowApplied_eq, windowRecord_eq]
  dsimp only
  split
  · next h =>
    split at h
    · next ha => rw [if_pos ha, if_pos ha]; rfl
    · cases h
  · next h =>
    split at h
    · cases h
    · next ha => rw [if_neg ha, if_neg ha]

/-- The window's end: the result applied, the survey over, the correlator passed on (R146, R150, R151). -/
theorem endWindow_passes {s : State} (hn : NoIdleCorrelator s) (c : ChanId) (i : Fin 4) (k : Correlator) :
    s.endWindow c i k
      = passedOn (surveyOver (s.setCh c (windowApplied (s.ch c) k)) c (windowRecord (s.ch c) k)) i := by
  rw [endWindow_eq]
  exact endRunning_passes (s := s.setCh c _) hn c i _

/-- The context of a channel whose running survey ends, when it is not queued again (R150, R153). -/
theorem endRunning_ch_same {s : State} {c : ChanId} (hq : ∀ e ∈ s.dsu.queue, e.channel ≠ c) (i : Fin 4) (r : SurveyRecord) :
    (s.endRunning c i r).ch c = (surveyOver s c r).ch c :=
  grantUpTo_ch_same 4 ((surveyOver s c r).setUnit i none) hq

/-- A notice of a survey's end waits after it (R150). -/
theorem exists_surveyDone (s : State) (c : ChanId) (i : Fin 4) (r : SurveyRecord) :
    ∃ n ∈ (s.endRunning c i r).link.notices, n.channel = chanByte c ∧ n.body = .surveyDone r := by
  have hlink : (s.endRunning c i r).link = (surveyOver s c r).link := endRunning_link s c i r
  rw [hlink]
  exact exists_mem_placeNotice _ _ _

/-- Stages 6 and 7 leave the echo state and the survey's record. -/
theorem filter_keeps (x : Channel) (rx r : Sample) : (eqStage (powerStage x rx r) r).echo = x.echo
    ∧ (eqStage (powerStage x rx r) r).survey = x.survey ∧ (eqStage (powerStage x rx r) r).lastResult = x.lastResult
    ∧ (eqStage (powerStage x rx r) r).counters = x.counters := ⟨rfl, rfl, rfl, rfl⟩

/-- A boundary and the turn's end leave the survey's record. -/
theorem boundaryChange_survey {x y : Channel} (h : BoundaryChange x y) : (endTurn y).survey = x.survey
    ∧ (endTurn y).lastResult = x.lastResult ∧ (endTurn y).counters.surveysDone = x.counters.surveysDone := by
  obtain ⟨_, _, _, _, _, _, _, _, _, _, _, _, _, _, _, _, _, _, rfl⟩ := h
  exact ⟨rfl, rfl, rfl⟩

theorem turn_survey (s : State) (c : ChanId) (sl : SlotId) (rx : Option Sample) :
    ((turn s c sl rx).ch c).survey = ((surveyedState s c sl rx).ch c).survey
      ∧ ((turn s c sl rx).ch c).lastResult = ((surveyedState s c sl rx).ch c).lastResult
      ∧ ((turn s c sl rx).ch c).counters.surveysDone = ((surveyedState s c sl rx).ch c).counters.surveysDone := by
  obtain ⟨y, hy, ht⟩ := turn_ch s c sl rx
  obtain ⟨hsurvey, hlast, hdone⟩ := boundaryChange_survey hy
  obtain ⟨-, h2, h3, h4⟩ := filter_keeps ((surveyedState s c sl rx).ch c) (turnRx (s.ch c) rx) (turnError s c sl rx)
  rw [ht, hsurvey, hlast, hdone, filteredState_ch, h2, h3, h4]
  exact ⟨rfl, rfl, rfl⟩

theorem filteredState_echo (s : State) (c : ChanId) (sl : SlotId) (rx : Option Sample) :
    ((filteredState s c sl rx).ch c).echo = ((surveyedState s c sl rx).ch c).echo := by
  rw [filteredState_ch, (filter_keeps _ _ _).1]

/-- A notice that is none of a turn's later kinds still waits at its end. -/
theorem mem_of_othersStand {touched : Notice → Bool} {s t : State} (h : OthersStand touched s t) {n : Notice}
    (hn : n ∈ s.link.notices) (ht : touched n = false) : n ∈ t.link.notices := by
  have hmem : n ∈ s.link.notices.filter fun n => !touched n := List.mem_filter.2 ⟨hn, by rw [ht]; rfl⟩
  rw [← h] at hmem
  exact List.mem_of_mem_filter hmem

theorem turn_surveyDone {s : State} {c : ChanId} {sl : SlotId} {rx : Option Sample} {r : SurveyRecord}
    (h : ∃ n ∈ (surveyedState s c sl rx).link.notices, n.channel = chanByte c ∧ n.body = .surveyDone r) :
    ∃ n ∈ (turn s c sl rx).link.notices, n.channel = chanByte c ∧ n.body = .surveyDone r := by
  obtain ⟨n, hn, hc, hb⟩ := h
  have hkind : ∀ kinds : List Byte, (0x44 : Byte) ∉ kinds → ofKinds c kinds n = false := fun kinds hk => by
    rw [Bool.eq_false_iff]
    intro ht
    rw [ofKinds_iff, hb] at ht
    exact hk ht.2
  have hfiltered := mem_of_othersStand (own_filtered s c sl rx).notices hn (hkind _ (by decide))
  exact ⟨n, mem_of_othersStand (own_turnEnd s c sl rx).notices hfiltered (hkind _ (by decide)), hc, hb⟩

/-- What the stages before the survey leave of D, the far taps' number and the profile (R7, R90). -/
theorem echoedState_far (s : State) (c : ChanId) (sl : SlotId) (rx : Option Sample) :
    ((echoedState s c sl rx).ch c).echo.delay = (s.ch c).echo.delay
      ∧ ((echoedState s c sl rx).ch c).echo.far.length = (s.ch c).echo.far.length
      ∧ ((echoedState s c sl rx).ch c).params = (s.ch c).params
      ∧ ((echoedState s c sl rx).ch c).counters.surveysDone = (s.ch c).counters.surveysDone := by
  have hecho : ∀ (ch : Channel) (x : Nat → Sample) (r : Sample), (echoedChannel ch x r).echo.delay = ch.echo.delay
      ∧ (echoedChannel ch x r).echo.far.length = ch.echo.far.length ∧ (echoedChannel ch x r).params = ch.params
      ∧ (echoedChannel ch x r).counters.surveysDone = ch.counters.surveysDone := by
    intro ch x r
    unfold echoedChannel trainedChannel expiredTraining echoUpdate
    dsimp only
    repeat' split
    all_goals exact ⟨rfl, by simp [countTraining, takeCheckpoint, takenExtension], rfl, rfl⟩
  obtain ⟨_, _, _, _, hchosen⟩ := chosenChannel_rest s c
  obtain ⟨h1, h2, h3, h4⟩ := hecho (receiveStage (chosenChannel s c) rx) (turnInput s c sl) (turnError s c sl rx)
  rw [echoedState_ch, h1, h2, h3, h4, hchosen]
  cases rx <;> exact ⟨rfl, rfl, rfl, rfl⟩

/-- Settles O19: the row and the turn end the window alike; the turn's survey stage is its own, and later stages leave it. -/
theorem windowEndRecords : Obligations.WindowEndRecords := by
  intro s c i k hn hq hk hp ch found applies delay record
  refine ⟨fun hhigh ho hu hw => ?row, fun hs hc sl v => ?turn⟩
  case row =>
    have hrecord : windowRecord (s.ch c) k = record k.sums := windowRecord_eq _ _
    have hlink : (passedOn (surveyOver (s.setCh c (windowApplied (s.ch c) k)) c (windowRecord (s.ch c) k)) i).link
        = { s.link with notices := placeNotice (chanByte c) (.surveyDone (record k.sums)) s.link.notices } := by
      rw [passedOn_link, hrecord]
      rfl
    have hrest := passedOn_rest (surveyOver (s.setCh c (windowApplied (s.ch c) k)) c (windowRecord (s.ch c) k)) i
    refine ⟨(passedOn (surveyOver (s.setCh c (windowApplied (s.ch c) k)) c (windowRecord (s.ch c) k)) i).settle,
      ?_, ?_, ?_, ?_, fun d hd => ?_, ?_, ?_, ?_, ?_, ?_, ?_, ?_, ?_⟩
    · change execWindowEnd c s = _
      rw [execWindowEnd, unlessHeld_high _ _ hhigh, unitFor_eq hu hk]
      dsimp only
      rw [if_pos ⟨ho, hp, hw⟩, endWindow_passes hn, State.done_eq]
    · rw [State.settle_ch, passedOn_ch_same (s := surveyOver (s.setCh c _) c _) i hq, surveyOver_ch, if_pos rfl, State.setCh_ch_same,
        windowApplied_echo, hrecord]
    · have hdue : attnDue { s.link with
          notices := placeNotice (chanByte c) (.surveyDone (record k.sums)) s.link.notices } = true := by
        simp [attnDue, placeNotice_ne_nil]
      rw [State.settle, State.modLink]
      dsimp only
      rw [hlink, hdue]
    · exact passedOn_dsu_congr (s := s) (t := surveyOver (s.setCh c _) c _) i rfl
    · refine passedOn_ch_congr (s := s) (t := surveyOver (s.setCh c _) c _) i rfl ?_
      rw [surveyOver_ch, if_neg hd, State.setCh_ch_ne _ _ _ _ hd]
    all_goals rw [State.settle, State.modLink, hrest]; rfl
  case turn =>
    subst hc
    intro x r sums t
    have herror : turnError s k.entry.channel sl (some v) = r := rfl
    have hheld := surveyedState_held sl (some v) hs hk
    refine ⟨fun hw => ?counts, fun hw => ?ends⟩
    case counts => exact turn_dsu_counts sl (some v) (hheld.trans (surveyTurn_counts _ _ hp hw))
    case ends =>
      obtain ⟨hdelay, hfar, hparams, hdone⟩ := echoedState_far s k.entry.channel sl (some v)
      have hend := (hheld.trans (surveyTurn_ends _ _ hp hw)).trans (endWindow_eq _ _ _ _)
      have hrecord : windowRecord ((echoedState s k.entry.channel sl (some v)).ch k.entry.channel) (windowTurn k x r)
          = record sums := by
        rw [windowRecord_eq, hparams]
        rfl
      rw [show turnInput s k.entry.channel sl = x from rfl, herror, hrecord] at hend
      have hqueue : ∀ e ∈ ((echoedState s k.entry.channel sl (some v)).setCh k.entry.channel
          (windowApplied ((echoedState s k.entry.channel sl (some v)).ch k.entry.channel) (windowTurn k x r))).dsu.queue,
          e.channel ≠ k.entry.channel := by
        rw [State.setCh_dsu, echoedState_dsu]
        exact hq
      have hch := (congrArg (·.ch k.entry.channel) hend).trans (endRunning_ch_same hqueue i (record sums))
      rw [surveyOver_ch, if_pos rfl, State.setCh_ch_same, windowApplied_echo] at hch
      dsimp only at hch
      obtain ⟨hsurvey, hlast, hcount⟩ := turn_survey s k.entry.channel sl (some v)
      obtain ⟨hdsu, hothers⟩ := turn_dsu_ends sl (some v) hn hend
      refine ⟨?_, ?_, ?_, turn_surveyDone ?_, fun hinside => ?_, hdsu, hothers⟩
      · rw [hsurvey, hch]
      · rw [hlast, hch]
      · rw [hcount, hch, hdone]
      · rw [hend]
        exact exists_surveyDone _ _ _ _
      · obtain ⟨n, hecho⟩ := turn_echo s k.entry.channel sl (some v) hinside
        rw [filteredState_echo, hch, hparams] at hecho
        refine ⟨fun ha => ⟨?_, ?_⟩, fun ha => ?_⟩ <;> dsimp only [t] <;> rw [hecho] <;> dsimp only
        · exact if_pos ha
        · rw [hfar]
          exact if_pos ha
        · rw [hdelay]
          exact if_neg ha

end Sys2Proof.Proofs
end

section
/-! PROOF. The channel requests that read and set a context: ECHO_EXTEND (R98), SET_DELAY (R110), TAPS_READ and TAPS_WRITE
(R112 to R117, R140, R141), CHECKPOINT and RESTORE (R107, R108), and QUALITY (R165). -/

namespace Sys2Proof.Proofs
open Sys2Proof.Machine Sys2Proof.Safety Sys2Proof.Laws

/-- A change of one channel as a request makes it, on the state with the head taken off. -/
theorem dequeued_modCh (s : State) (rest : List Frame) (c : ChanId) (g : Channel → Channel) :
    (dequeued s rest).modCh c g = dequeued (s.setCh c (g (s.ch c))) rest := rfl

theorem natWord_toNat (w : Word) : natWord w.toNat = w := by
  rw [natWord, BitVec.ofNat_toNat, BitVec.setWidth_eq]

/-! ### ECHO_EXTEND -/

theorem exec_echoExtend (s : State) :
    exec .echoExtend s = takeKind 0x14 (channelRequest (lengthIs 2) actEchoExtend) s := rfl

theorem actEchoExtend_open {s : State} {c : ChanId} (h : (s.ch c).state = .opened) (f : Frame) :
    actEchoExtend s f c
      = if (s.ch c).echo.mode ≠ .train then ⟨s, .late, [echoModeWord (s.ch c).echo.mode]⟩
        else if f.value 0 = 0 then refuse s .malformed
        else if (s.ch c).echo.extension.isSome then refuse s .already
        else ⟨s.modCh c fun ch => setExtension ch (f.value 0), .ok, [natWord (s.ch c).echo.trainCount, f.word 0]⟩ :=
  inStates_of_mem (by simp [h]) _

/-- Settles O40: the checks in their order, each of them one branch of the act (log entry 13). -/
theorem echoExtendSets : Obligations.EchoExtendSets := by
  intro s f rest c hr hk hc hl ch
  have taken : ∀ {t : State} {code : ResultCode} {items : List Word},
      actEchoExtend (dequeued s rest) f c = ⟨dequeued t rest, code, items⟩ →
      exec .echoExtend s = .next (answered t f rest code items) := fun ha => by
    rw [exec_echoExtend]
    exact takeKind_channelRequest hr hk hc (lengthIs_eq_true.2 hl) ha
  have late : ∀ {mode : EchoMode}, ch.state = .opened → ch.echo.mode = mode → mode ≠ .train →
      exec .echoExtend s = .next (answered s f rest .late [echoModeWord mode]) := fun ho hm hne => by
    refine taken ?_
    rw [actEchoExtend_open (s := dequeued s rest) ho, dequeued_ch, if_pos (by rwa [hm]), hm]
  refine ⟨fun hno => taken (inStates_of_not_mem (by simpa using hno) _), fun ho hm => late ho hm nofun,
    fun ho hm => late ho hm nofun, fun ho hm => ⟨fun hzero => taken ?malformed, fun hcount hext => taken ?already,
    fun hcount hext => taken ?set⟩⟩
  all_goals rw [actEchoExtend_open (s := dequeued s rest) ho, dequeued_ch, if_neg (not_not.2 hm)]
  case malformed => exact if_pos hzero
  case already => rw [if_neg (by omega), if_pos (Option.isSome_iff_ne_none.2 hext)]; rfl
  case set =>
    have hnone : ¬ (s.ch c).echo.extension.isSome = true := by
      rw [show (s.ch c).echo.extension = none from hext]
      exact Bool.false_ne_true
    rw [if_neg (by omega), if_neg hnone, dequeued_modCh]
    rfl

/-! ### SET_DELAY -/

theorem exec_setDelay (s : State) : exec .setDelay s = takeKind 0x15 (channelRequest (lengthIs 4) actSetDelay) s := rfl

theorem not_opened_halted {st : ChanState} (h : st = .free ∨ st = .draining) : st ∉ [ChanState.opened, .halted] := by
  obtain rfl | rfl := h <;> decide

theorem mem_opened_halted {st : ChanState} : st ∈ [ChanState.opened, .halted] ↔ st = .opened ∨ st = .halted := by
  simp

/-- Settles O41: the minimum of the act is the value given or max_delay. -/
theorem setDelayClamps : Obligations.SetDelayClamps := by
  intro s f rest c hr hk hc hl ch after
  have taken : ∀ {t : State} {code : ResultCode} {items : List Word},
      actSetDelay (dequeued s rest) f c = ⟨dequeued t rest, code, items⟩ →
      exec .setDelay s = .next (answered t f rest code items) := fun ha => by
    rw [exec_setDelay]
    exact takeKind_channelRequest hr hk hc (lengthIs_eq_true.2 hl) ha
  have hset : ch.state = .opened ∨ ch.state = .halted →
      actSetDelay (dequeued s rest) f c
        = ⟨dequeued (after (min (f.value 0) ch.params.maxDelay)) rest,
          if ch.params.maxDelay < f.value 0 then .adjusted else .ok, [natWord (min (f.value 0) ch.params.maxDelay)]⟩ :=
    fun hst => inStates_of_mem (s := dequeued s rest) (mem_opened_halted.2 hst) _
  refine ⟨fun hst => taken (inStates_of_not_mem (s := dequeued s rest) (not_opened_halted hst) _), fun hst hle => taken ?_,
    fun hst hlt => taken ?_⟩
  · rw [hset hst, if_neg (not_lt.2 hle), min_eq_left hle, Frame.value, natWord_toNat]
  · rw [hset hst, if_pos hlt, min_eq_right hlt.le, natWord]

/-! ### The sets of taps -/

theorem tapSetOf_tapSetWord (set : TapSet) : tapSetOf (tapSetWord set).toNat = some set := by
  cases set <;> rfl

theorem tapSetOf_eq_none {code : Nat} (h : 5 ≤ code) : tapSetOf code = none := by
  match code, h with
  | _ + 5, _ => rfl

theorem writableSet_eq_none {code : Nat} (h : 3 ≤ code) : writableSet code = none := by
  match code, h with
  | 3, _ | 4, _ => rfl
  | _ + 5, _ => rw [writableSet, tapSetOf_eq_none (by omega)]

theorem writableSet_tapSetWord {set : TapSet} (h : set = .near ∨ set = .far ∨ set = .eq) :
    writableSet (tapSetWord set).toNat = some set := by
  obtain rfl | rfl | rfl := h <;> rfl

/-- The start used is the one given, or the cursor when 0xFFFF is given (R113). -/
theorem startUsed_eq (ch : Channel) (set : TapSet) (w : Word) :
    startUsed ch set (startOf w) = if w = 0xFFFF then cursorOf ch set else w.toNat := by
  unfold startUsed startOf
  split <;> rfl

/-! ### TAPS_READ -/

theorem exec_tapsRead (s : State) : exec .tapsRead s = takeKind 0x17 (channelRequest (lengthIs 6) actTapsRead) s := rfl

theorem actTapsRead_malformed {f : Frame} (h : 5 ≤ f.value 0 ∨ f.value 2 = 0 ∨ 129 ≤ f.value 2) (s : State) (c : ChanId) :
    actTapsRead s f c = refuse s .malformed := by
  unfold actTapsRead
  cases hset : tapSetOf (f.value 0) with
  | none => rfl
  | some set =>
    have hcount : f.value 2 < 1 ∨ 128 < f.value 2 := by
      obtain h | h | h := h
      · rw [tapSetOf_eq_none h] at hset
        exact nomatch hset
      · exact .inl (by omega)
      · exact .inr h
    exact if_pos hcount

/-- Past the checks of its operands, a TAPS_READ is checked against the channel's state and the set (R114). -/
theorem actTapsRead_set {f : Frame} {set : TapSet} (hw : f.word 0 = tapSetWord set) (h1 : 1 ≤ f.value 2)
    (h128 : f.value 2 ≤ 128) (s : State) (c : ChanId) :
    actTapsRead s f c = inStates s c [.opened, .draining, .halted]
      (match tapsOf (s.ch c) set with
      | none => refuse s .notFound
      | some taps => readTaps s c set taps (startUsed (s.ch c) set (startOf (f.word 1))) (f.value 2)) := by
  have hcode : tapSetOf (f.value 0) = some set := by rw [Frame.value, hw, tapSetOf_tapSetWord]
  unfold actTapsRead
  simp only [hcode]
  exact if_neg (by omega)

theorem mem_held_states {st : ChanState} (h : st ≠ .free) : st ∈ [ChanState.opened, .draining, .halted] := by
  cases st with
  | free => exact absurd rfl h
  | opened | draining | halted => decide

/-- A read of a set that is there, of a channel that is not FREE (R114, R115). -/
theorem actTapsRead_reads {s : State} {f : Frame} {c : ChanId} {set : TapSet} {taps : List Sample}
    (hw : f.word 0 = tapSetWord set) (h1 : 1 ≤ f.value 2) (h128 : f.value 2 ≤ 128) (hst : (s.ch c).state ≠ .free)
    (htaps : tapsOf (s.ch c) set = some taps) :
    actTapsRead s f c = readTaps s c set taps (startUsed (s.ch c) set (startOf (f.word 1))) (f.value 2) := by
  rw [actTapsRead_set hw h1 h128, inStates_of_mem (mem_held_states hst), htaps]

theorem readTaps_pastEnd {taps : List Sample} {start : Nat} (h : taps.length ≤ start) (s : State) (c : ChanId)
    (set : TapSet) (count : Nat) : readTaps s c set taps start count = refuse s .malformed := if_pos h

theorem readTaps_inside {taps : List Sample} {start : Nat} (h : start < taps.length) (s : State) (c : ChanId)
    (set : TapSet) (count : Nat) :
    readTaps s c set taps start count
      = ⟨s.modCh c fun ch => moveCursor ch set taps.length start count, accessCode taps.length start count,
        [tapSetWord set, natWord start, natWord (countUsed taps.length start count)]
          ++ (taps.drop start).take (countUsed taps.length start count) ++ readTrailer (s.ch c) set⟩ :=
  if_neg (not_le.2 h)

/-- Settles O43: the checks of R114 in their order, and the reply by the set's trailer. -/
theorem tapsReadReports : Obligations.TapsReadReports := by
  intro s f rest c hr hk hc hl ch
  have taken : ∀ {t : State} {code : ResultCode} {items : List Word},
      actTapsRead (dequeued s rest) f c = ⟨dequeued t rest, code, items⟩ →
      exec .tapsRead s = .next (answered t f rest code items) := fun ha => by
    rw [exec_tapsRead]
    exact takeKind_channelRequest hr hk hc (lengthIs_eq_true.2 hl) ha
  refine ⟨fun hbad => taken (actTapsRead_malformed hbad _ _), fun set hw h1 h128 =>
    ⟨fun hfree => taken ?wrongState, fun hst hnone => taken ?notFound, fun taps hst htaps => ?reads⟩⟩
  case wrongState =>
    have hno : ((dequeued s rest).ch c).state ∉ [ChanState.opened, .draining, .halted] := by
      rw [dequeued_ch, show (s.ch c).state = .free from hfree]
      decide
    rw [actTapsRead_set hw h1 h128, inStates_of_not_mem hno]
    rfl
  case notFound =>
    rw [actTapsRead_set hw h1 h128, inStates_of_mem (s := dequeued s rest) (mem_held_states hst), dequeued_ch,
      show tapsOf (s.ch c) set = none from hnone]
    rfl
  case reads =>
    have hread := actTapsRead_reads (s := dequeued s rest) hw h1 h128 hst htaps
    rw [dequeued_ch, startUsed_eq] at hread
    intro start used trailer
    refine ⟨fun hpast => taken (hread.trans (readTaps_pastEnd hpast _ _ _ _)), fun hin => taken ?_⟩
    rw [hread]
    refine (readTaps_inside hin _ _ _ _).trans ?_
    rw [dequeued_modCh]
    cases set <;> rfl

/-! ### TAPS_WRITE -/

theorem exec_tapsWrite (s : State) :
    exec .tapsWrite s = takeKind 0x18 (channelRequest tapsWriteLength actTapsWrite) s := rfl

theorem actTapsWrite_malformed {f : Frame} (h : 3 ≤ f.value 0) (s : State) (c : ChanId) :
    actTapsWrite s f c = refuse s .malformed := by
  simp only [actTapsWrite, writableSet_eq_none h]

/-- Past the check of its set, a TAPS_WRITE is checked against the channel's state and modes (R116, R140). -/
theorem actTapsWrite_set {s : State} {f : Frame} {c : ChanId} {set : TapSet} {taps : List Sample}
    (hset : set = .near ∨ set = .far ∨ set = .eq) (hw : f.word 0 = tapSetWord set)
    (htaps : tapsOf (s.ch c) set = some taps) :
    actTapsWrite s f c
      = if writeAllowed (s.ch c) set then
          writeTaps s c set taps (startUsed (s.ch c) set (startOf (f.word 1))) ((payloadWords f.payload).drop 2)
        else refuse s .wrongState := by
  have hcode : writableSet (f.value 0) = some set := by rw [Frame.value, hw, writableSet_tapSetWord hset]
  simp only [actTapsWrite, hcode, htaps, Option.getD_some]

theorem writeAllowed_iff {ch : Channel} {set : TapSet} (hset : set = .near ∨ set = .far ∨ set = .eq) :
    writeAllowed ch set = true ↔ ch.state = .halted ∨ (ch.state = .opened ∧
      if set = .eq then ch.eq.mode = .hold ∨ ch.eq.mode = .bypass else ch.echo.mode = .hold) := by
  unfold writeAllowed
  cases ch.state with
  | free | draining | halted => simp
  | opened => obtain rfl | rfl | rfl := hset <;> simp

theorem countUsed_le (length start count : Nat) : countUsed length start count ≤ length - start := min_le_right _ _

theorem length_overwrite {taps : List Sample} {start : Nat} (h : start < taps.length) (values : List Sample) :
    (overwrite taps start values).length = taps.length := by
  have hle := countUsed_le taps.length start values.length
  have hvalues : countUsed taps.length start values.length ≤ values.length := min_le_left _ _
  simp only [overwrite, List.length_append, List.length_take, List.length_drop]
  omega

/-- The tap at each place after a write: a value inside the part written, else the tap as it stood (R116, R117). -/
theorem getElem?_overwrite {taps : List Sample} {start : Nat} (h : start < taps.length) (values : List Sample) (j : Nat) :
    (overwrite taps start values)[j]?
      = if start ≤ j ∧ j < start + countUsed taps.length start values.length then values[j - start]? else taps[j]? := by
  have hle := countUsed_le taps.length start values.length
  have hvalues : countUsed taps.length start values.length ≤ values.length := min_le_left _ _
  have hhead : (taps.take start).length = start := by rw [List.length_take]; omega
  have hmid : (values.take (countUsed taps.length start values.length)).length
      = countUsed taps.length start values.length := by rw [List.length_take]; omega
  obtain hlow | hlow := lt_or_ge j start
  · rw [overwrite, List.getElem?_append_left (by omega), List.getElem?_take_of_lt hlow, if_neg (by omega)]
  · rw [overwrite, List.getElem?_append_right (by omega), hhead]
    obtain hin | hout := lt_or_ge (j - start) (countUsed taps.length start values.length)
    · rw [List.getElem?_append_left (by omega), List.getElem?_take_of_lt hin, if_pos (by omega)]
    · rw [List.getElem?_append_right (by omega), hmid, List.getElem?_drop, if_neg (by omega)]
      congr 1
      omega

/-- Settles O44: the checks of R116 in their order; a write that passes stores the values at their places. -/
theorem tapsWriteStores : Obligations.TapsWriteStores := by
  intro s f rest c hr hk hc h6 h260 heven ch values
  have hlen : tapsWriteLength f.payload.length = true := by simp [tapsWriteLength, h6, h260, heven]
  have taken : ∀ {t : State} {code : ResultCode} {items : List Word},
      actTapsWrite (dequeued s rest) f c = ⟨dequeued t rest, code, items⟩ →
      exec .tapsWrite s = .next (answered t f rest code items) := fun ha => by
    rw [exec_tapsWrite]
    exact takeKind_channelRequest hr hk hc hlen ha
  refine ⟨fun hbad => taken (actTapsWrite_malformed hbad _ _), fun set taps hset hw htaps => ?_⟩
  have hact := actTapsWrite_set (s := dequeued s rest) hset hw htaps
  rw [dequeued_ch, startUsed_eq] at hact
  intro allowed start used
  have hallowed : writeAllowed (s.ch c) set = true ↔ allowed := writeAllowed_iff hset
  refine ⟨fun hno => taken ?wrongState, fun hmay hpast => taken ?malformed, fun hmay hin =>
    ⟨overwrite taps start values, length_overwrite hin values, fun j _ => getElem?_overwrite hin values j,
      taken ?written⟩⟩
  case wrongState => rw [hact, if_neg (mt hallowed.1 hno)]; rfl
  case malformed =>
    rw [hact, if_pos (hallowed.2 hmay)]
    exact if_pos hpast
  case written =>
    rw [hact, if_pos (hallowed.2 hmay)]
    exact if_neg (not_le.2 hin)

/-! ### CHECKPOINT and RESTORE -/

theorem exec_checkpoint (s : State) :
    exec .checkpoint s = takeKind 0x19 (channelRequest (lengthIs 0) actCheckpoint) s := rfl

theorem exec_restore (s : State) : exec .restore s = takeKind 0x1A (channelRequest (lengthIs 0) actRestore) s := rfl

theorem actRestore_may {s : State} {c : ChanId} (h : (s.ch c).state = .opened ∨ (s.ch c).state = .halted) (f : Frame) :
    actRestore s f c = match (s.ch c).echo.checkpoint with
      | none => refuse s .notFound
      | some k => ⟨s.modCh c fun ch => setStrikes (loadCheckpoint ch k) 0, .ok, [natWord k.delay]⟩ :=
  inStates_of_mem (mem_opened_halted.2 h) _

/-- Settles O45: both requests by the channel's state, RESTORE by its record. -/
theorem checkpointAndRestore : Obligations.CheckpointAndRestore := by
  intro s f rest c hr hc hp ch may
  have hlen : lengthIs 0 f.payload.length = true := by rw [hp]; rfl
  have hno : ∀ {a : Answer}, ¬ may → inStates (dequeued s rest) c [.opened, .halted] a
      = refuse (dequeued s rest) .wrongState := fun h => inStates_of_not_mem (s := dequeued s rest) (mt mem_opened_halted.1 h) _
  refine ⟨fun hk => ⟨fun h => ?_, fun h => ?_⟩, fun hk => ⟨fun h => ?_, fun h hnone => ?_, fun k h hsome => ?_⟩⟩
  · rw [exec_checkpoint]
    exact takeKind_channelRequest hr hk hc hlen (hno h)
  · rw [exec_checkpoint]
    exact takeKind_channelRequest hr hk hc hlen (inStates_of_mem (s := dequeued s rest) (mem_opened_halted.2 h) _)
  · rw [exec_restore]
    exact takeKind_channelRequest hr hk hc hlen (hno h)
  · rw [exec_restore]
    refine takeKind_channelRequest hr hk hc hlen ?_
    rw [actRestore_may (s := dequeued s rest) h, dequeued_ch, show (s.ch c).echo.checkpoint = none from hnone]
    rfl
  · rw [exec_restore]
    refine takeKind_channelRequest hr hk hc hlen ?_
    rw [actRestore_may (s := dequeued s rest) h, dequeued_ch, show (s.ch c).echo.checkpoint = some k from hsome]
    rfl

/-! ### QUALITY -/

theorem exec_quality (s : State) : exec .quality s = takeKind 0x1D (channelRequest (lengthIs 0) actQuality) s := rfl

/-- An attribute's figure with its verdict, as a reply carries it (R164, R165). -/
theorem figureWords_eq (value : Option Nat) (low : Nat) :
    figureWords value low = match value with
      | none => [0, 0, 2]
      | some n => [1, natWord n, if low ≤ n then 0 else 1] := by
  cases value with
  | none => rfl
  | some n =>
    simp only [figureWords, verdict, optionWords]
    split <;> rfl

/-- Settles O48: the reply reads the channel, and the state stands. -/
theorem qualityReports : Obligations.QualityReports := by
  intro s f rest c hr hk hc hp ch q figure erle mse state
  have hlen : lengthIs 0 f.payload.length = true := by rw [hp]; rfl
  have taken : ∀ {code : ResultCode} {items : List Word},
      actQuality (dequeued s rest) f c = ⟨dequeued s rest, code, items⟩ →
      exec .quality s = .next (answered s f rest code items) := fun ha => by
    rw [exec_quality]
    exact takeKind_channelRequest hr hk hc hlen ha
  refine ⟨fun hfree => taken ?wrongState, fun hst => taken ?reports⟩
  case wrongState =>
    have hno : ((dequeued s rest).ch c).state ∉ [ChanState.opened, .draining, .halted] := by
      rw [dequeued_ch, show (s.ch c).state = .free from hfree]
      decide
    exact inStates_of_not_mem hno _
  case reports =>
    refine (inStates_of_mem (s := dequeued s rest) (mem_held_states hst) _).trans ?_
    rw [dequeued_ch, qualityItems, figureWords_eq, figureWords_eq]
    cases hstate : (s.ch c).state <;> simp only [state, ch, hstate] <;> rfl

end Sys2Proof.Proofs
end

section
/-! PROOF. What holds of every request: the checks that come before its own rules (R38, R195, R209), its one reply (R196), and
that a refusal changes nothing (R195). -/

namespace Sys2Proof.Proofs
open Sys2Proof.Machine Sys2Proof.Safety Sys2Proof.Laws

/-! ### The queues of the link -/

/-- The request and the reply queue stand. -/
structure SameQueues (s t : State) : Prop where
  requests : t.link.requests = s.link.requests
  replies : t.link.replies = s.link.replies

theorem sameQueues_of_link {s t : State} (h : t.link = s.link) : SameQueues s t := ⟨by rw [h], by rw [h]⟩

theorem SameQueues.trans {s t u : State} (h : SameQueues s t) (k : SameQueues t u) : SameQueues s u :=
  ⟨k.requests.trans h.requests, k.replies.trans h.replies⟩

theorem sameQueues_queueSurvey (s : State) (e : SurveyEntry) : SameQueues s (s.queueSurvey e) := by
  refine sameQueues_of_link ?_
  unfold State.queueSurvey
  rw [(granted_runArbiter _).rest]
  rfl

theorem sameQueues_cancelSurvey (s : State) (c : ChanId) : SameQueues s (s.cancelSurvey c) := by
  unfold State.cancelSurvey
  split
  next => exact ⟨rfl, rfl⟩
  next r _ =>
    refine SameQueues.trans (t := s.recordSurvey c r) ⟨rfl, rfl⟩ (sameQueues_of_link ?_)
    rw [(withdrawSurvey_granted _ c).rest]

theorem sameQueues_drainAtOnce (s : State) (c : ChanId) : SameQueues s (s.drainAtOnce c) := by
  unfold State.drainAtOnce
  split
  · exact ⟨rfl, rfl⟩
  · split <;> exact ⟨rfl, rfl⟩

/-! ### One answer -/

/-- An answer as every request gives it: the queues stand, and a refusal changes nothing (R195, R196). -/
structure OneAnswer (s : State) (a : Answer) : Prop where
  queues : SameQueues s a.state
  refused : Refuses a.code → a.state = s

/-- An answer that leaves the state as it stands, refused or not. -/
theorem oneAnswer_stands (s : State) (code : ResultCode) (items : List Word) : OneAnswer s ⟨s, code, items⟩ :=
  ⟨⟨rfl, rfl⟩, fun _ => rfl⟩

theorem oneAnswer_ok {s t : State} {items : List Word} (h : SameQueues s t) : OneAnswer s ⟨t, .ok, items⟩ :=
  ⟨h, fun hr => absurd rfl hr.1⟩

theorem oneAnswer_taken {s t : State} {code : ResultCode} {items : List Word} (h : SameQueues s t)
    (hcode : code = .ok ∨ code = .adjusted) : OneAnswer s ⟨t, code, items⟩ :=
  ⟨h, fun hr => absurd hcode (not_or.2 hr)⟩

theorem oneAnswer_inStates {s : State} {c : ChanId} {states : List ChanState} {a : Answer} (ha : OneAnswer s a) :
    OneAnswer s (inStates s c states a) := by
  unfold inStates
  split
  · exact ha
  · exact oneAnswer_stands s _ _

/-- A code chosen between OK and ADJUSTED refuses nothing. -/
theorem code_taken {p : Prop} [Decidable p] :
    (if p then ResultCode.adjusted else .ok) = .ok ∨ (if p then ResultCode.adjusted else .ok) = .adjusted := by
  split
  · exact .inr rfl
  · exact .inl rfl

/-! ### The acts of the device requests -/

section
variable (s : State) (f : Frame)

theorem oneAnswer_profileWrite : OneAnswer s (actProfileWrite s f) := by
  have hstored : SameQueues s (s.setProfile (f.value 0) (writtenProfile f)) :=
    sameQueues_of_link (by unfold State.setProfile; split <;> rfl)
  unfold actProfileWrite
  split
  · exact oneAnswer_stands s _ _
  · split
    · exact oneAnswer_stands s _ _
    · split
      · exact oneAnswer_stands s _ _
      · split
        · exact oneAnswer_stands s _ _
        · exact oneAnswer_ok hstored

theorem oneAnswer_profileRead : OneAnswer s (actProfileRead s f) := by
  unfold actProfileRead
  split <;> exact oneAnswer_stands s _ _

/-- ALREADY answers a lock that was on, and the lock stays on (R183). -/
theorem oneAnswer_profileLock : OneAnswer s (actProfileLock s f) := by
  refine ⟨⟨rfl, rfl⟩, fun hr => ?_⟩
  change { s with lock := true } = s
  have hcode : Refuses (if s.lock then ResultCode.already else .ok) := hr
  split at hcode
  next hlock => rw [← hlock]
  next => exact absurd rfl hcode.1

theorem oneAnswer_statsSnapshot : OneAnswer s (actStatsSnapshot s f) := by
  have hclear : ∀ u : State, SameQueues u u.clearCounters := fun _ => ⟨rfl, rfl⟩
  unfold actStatsSnapshot
  refine oneAnswer_ok ?_
  split
  · exact SameQueues.trans (t := { s with snapshot := s.snapshotNow (f.flag 0 0) }) ⟨rfl, rfl⟩ (hclear _)
  · exact ⟨rfl, rfl⟩

theorem oneAnswer_statsRead : OneAnswer s (actStatsRead s f) := by
  unfold actStatsRead
  split
  · exact oneAnswer_stands s _ _
  · split <;> exact oneAnswer_stands s _ _

/-! ### The acts of the channel requests -/

variable (c : ChanId)

theorem oneAnswer_bind : OneAnswer s (actBind s f c) := by
  unfold actBind
  split
  · exact oneAnswer_stands s _ _
  · split
    · exact oneAnswer_stands s _ _
    · split
      · exact oneAnswer_stands s _ _
      · unfold admitIfRoom
        split
        · exact oneAnswer_stands s _ _
        · split
          · exact oneAnswer_stands s _ _
          · split
            · exact oneAnswer_stands s _ _
            · exact oneAnswer_ok ⟨rfl, rfl⟩

theorem oneAnswer_quiesce : OneAnswer s (actQuiesce s f c) := by
  have hdrain : SameQueues s (s.quiesce c) :=
    ((sameQueues_cancelSurvey s c).trans (u := (s.cancelSurvey c).modCh c quiescedChannel) ⟨rfl, rfl⟩).trans
      (sameQueues_drainAtOnce _ c)
  unfold actQuiesce
  split
  · exact oneAnswer_ok hdrain
  · exact oneAnswer_stands s _ _
  · exact oneAnswer_stands s _ _
  · exact oneAnswer_stands s _ _

theorem oneAnswer_release : OneAnswer s (actRelease s f c) := oneAnswer_inStates (oneAnswer_ok ⟨rfl, rfl⟩)

theorem oneAnswer_echoMode : OneAnswer s (actEchoMode s f c) := by
  have hset : ∀ mode count thenMode, OneAnswer s (answerEchoMode s c mode count thenMode) := fun _ _ _ =>
    oneAnswer_inStates (oneAnswer_ok ⟨rfl, rfl⟩)
  unfold actEchoMode
  split
  · exact oneAnswer_stands s _ _
  · split
    · exact hset _ _ _
    · exact oneAnswer_stands s _ _
  · exact hset _ _ _
  · exact hset _ _ _

theorem oneAnswer_echoExtend : OneAnswer s (actEchoExtend s f c) := by
  refine oneAnswer_inStates ?_
  split
  · exact oneAnswer_stands s _ _
  · split
    · exact oneAnswer_stands s _ _
    · split
      · exact oneAnswer_stands s _ _
      · exact oneAnswer_ok ⟨rfl, rfl⟩

theorem oneAnswer_setDelay : OneAnswer s (actSetDelay s f c) :=
  oneAnswer_inStates (oneAnswer_taken ⟨rfl, rfl⟩ code_taken)

theorem oneAnswer_eqMode : OneAnswer s (actEqMode s f c) := by
  unfold actEqMode
  split
  · exact oneAnswer_stands s _ _
  · refine oneAnswer_inStates (oneAnswer_ok (sameQueues_of_link ?_))
    rw [setEqMode_eq]
    rfl

theorem oneAnswer_readTaps (set : TapSet) (taps : List Sample) (start count : Nat) :
    OneAnswer s (readTaps s c set taps start count) := by
  unfold readTaps
  split
  · exact oneAnswer_stands s _ _
  · exact oneAnswer_taken ⟨rfl, rfl⟩ code_taken

theorem oneAnswer_tapsRead : OneAnswer s (actTapsRead s f c) := by
  unfold actTapsRead
  split
  · exact oneAnswer_stands s _ _
  · split
    · exact oneAnswer_stands s _ _
    · refine oneAnswer_inStates ?_
      split
      · exact oneAnswer_stands s _ _
      · exact oneAnswer_readTaps s c _ _ _ _

theorem oneAnswer_writeTaps (set : TapSet) (taps : List Sample) (start : Nat) (values : List Sample) :
    OneAnswer s (writeTaps s c set taps start values) := by
  unfold writeTaps
  split
  · exact oneAnswer_stands s _ _
  · exact oneAnswer_taken ⟨rfl, rfl⟩ code_taken

theorem oneAnswer_tapsWrite : OneAnswer s (actTapsWrite s f c) := by
  unfold actTapsWrite
  split
  · exact oneAnswer_stands s _ _
  · split
    · exact oneAnswer_writeTaps s c _ _ _ _
    · exact oneAnswer_stands s _ _

theorem oneAnswer_checkpoint : OneAnswer s (actCheckpoint s f c) := oneAnswer_inStates (oneAnswer_ok ⟨rfl, rfl⟩)

theorem oneAnswer_restore : OneAnswer s (actRestore s f c) := by
  refine oneAnswer_inStates ?_
  split
  · exact oneAnswer_stands s _ _
  · exact oneAnswer_ok ⟨rfl, rfl⟩

theorem oneAnswer_survey : OneAnswer s (actSurvey s f c) := by
  refine oneAnswer_inStates ?_
  split
  · exact oneAnswer_stands s _ _
  · refine oneAnswer_taken (sameQueues_queueSurvey s _) ?_
    unfold surveyCode
    split
    · exact .inl rfl
    · exact .inr rfl

theorem oneAnswer_surveyCancel : OneAnswer s (actSurveyCancel s f c) := by
  refine oneAnswer_inStates ?_
  split
  · exact oneAnswer_ok (sameQueues_cancelSurvey s c)
  · exact oneAnswer_stands s _ _

theorem oneAnswer_quality : OneAnswer s (actQuality s f c) := oneAnswer_inStates (oneAnswer_stands s _ _)

end

/-! ### The table of rows -/

/-- How the row of a kind answers: as a device request or as a channel request, with the lengths R209 admits, and once, but for
RESET. -/
inductive AnswersKind (kind : Byte) : (State → Frame → Answer) → Prop
  | device (act : State → Frame → Answer) (hk : isChannelKind kind = false)
      (ha : kind ≠ 0x02 → ∀ s f, OneAnswer s (act s f)) :
      AnswersKind kind (deviceRequest (lengthAdmitted kind) act)
  | channel (act : State → Frame → ChanId → Answer) (hk : isChannelKind kind = true)
      (ha : ∀ s f c, OneAnswer s (act s f c)) : AnswersKind kind (channelRequest (lengthAdmitted kind) act)

theorem mem_requestKinds : ∀ kind : Byte, requestRow kind ≠ .unknownKind → kind ∈ requestKinds := by decide

/-- The row of a known kind takes requests of that kind, and answers as the table says. -/
theorem exists_answersKind {kind : Byte} (h : requestRow kind ≠ .unknownKind) :
    ∃ answer, AnswersKind kind answer ∧ ∀ s, exec (requestRow kind) s = takeKind kind answer s := by
  have hmem := mem_requestKinds kind h
  simp only [requestKinds, List.mem_cons, List.not_mem_nil, or_false] at hmem
  obtain rfl | rfl | rfl | rfl | rfl | rfl | rfl | rfl | rfl | rfl | rfl | rfl | rfl | rfl | rfl | rfl | rfl | rfl | rfl | rfl
    | rfl := hmem
  · exact ⟨_, .device actInfo rfl fun _ s f => oneAnswer_stands s _ _, exec_info⟩
  · exact ⟨_, .device actReset rfl fun hne => absurd rfl hne, exec_reset⟩
  · exact ⟨_, .device actProfileWrite rfl fun _ => oneAnswer_profileWrite, exec_profileWrite⟩
  · exact ⟨_, .device actProfileRead rfl fun _ => oneAnswer_profileRead, exec_profileRead⟩
  · exact ⟨_, .device actProfileLock rfl fun _ => oneAnswer_profileLock, exec_profileLock⟩
  · exact ⟨_, .device actStatsSnapshot rfl fun _ => oneAnswer_statsSnapshot, exec_statsSnapshot⟩
  · exact ⟨_, .device actStatsRead rfl fun _ => oneAnswer_statsRead, exec_statsRead⟩
  · exact ⟨_, .channel actBind rfl oneAnswer_bind, fun _ => rfl⟩
  · exact ⟨_, .channel actQuiesce rfl oneAnswer_quiesce, fun _ => rfl⟩
  · exact ⟨_, .channel actRelease rfl oneAnswer_release, fun _ => rfl⟩
  · exact ⟨_, .channel actEchoMode rfl oneAnswer_echoMode, exec_echoMode⟩
  · exact ⟨_, .channel actEchoExtend rfl oneAnswer_echoExtend, exec_echoExtend⟩
  · exact ⟨_, .channel actSetDelay rfl oneAnswer_setDelay, exec_setDelay⟩
  · exact ⟨_, .channel actEqMode rfl oneAnswer_eqMode, exec_eqMode⟩
  · exact ⟨_, .channel actTapsRead rfl oneAnswer_tapsRead, exec_tapsRead⟩
  · exact ⟨_, .channel actTapsWrite rfl oneAnswer_tapsWrite, exec_tapsWrite⟩
  · exact ⟨_, .channel actCheckpoint rfl oneAnswer_checkpoint, exec_checkpoint⟩
  · exact ⟨_, .channel actRestore rfl oneAnswer_restore, exec_restore⟩
  · exact ⟨_, .channel actSurvey rfl oneAnswer_survey, fun _ => rfl⟩
  · exact ⟨_, .channel actSurveyCancel rfl oneAnswer_surveyCancel, fun _ => rfl⟩
  · exact ⟨_, .channel actQuality rfl oneAnswer_quality, exec_quality⟩

/-! ### The checks of every request -/

/-- A kind's row answers a taken request as its answer says. -/
theorem takeKind_answered {s t : State} {f : Frame} {rest : List Frame} {answer : State → Frame → Answer}
    {code : ResultCode} {items : List Word} (hr : Ready s f rest)
    (ha : answer (dequeued s rest) f = ⟨dequeued t rest, code, items⟩) :
    takeKind f.kind answer s = .next (answered t f rest code items) := by
  rw [takeKind_of_ready hr rfl, State.takeHead, ← dequeued, ha, State.done_eq, settle_placeReply_dequeued]

theorem chanOf_of_ge {b : Byte} (h : 40 ≤ b.toNat) : chanOf b = none := dif_neg (by omega)

theorem chanOf_of_lt {b : Byte} (h : b.toNat < 40) : chanOf b = some ⟨b.toNat, h⟩ := dif_pos h

/-- Settles O49: each check is the one its row makes before its act (log entry 12). -/
theorem frameChecksComeFirst : Obligations.FrameChecksComeFirst := by
  intro s f rest hr hrow
  obtain ⟨answer, hanswer, hexec⟩ := exists_answersKind hrow
  rw [hexec]
  refine ⟨fun hchannel h40 => takeKind_answered hr ?_, fun hfield hlength => takeKind_answered hr ?_⟩
  · cases hanswer with
    | device act hk ha => exact absurd hchannel (by simp [hk])
    | channel act hk ha =>
      rw [channelRequest, chanOf_of_ge h40]
      rfl
  · cases hanswer with
    | device act hk ha =>
      rw [deviceRequest, if_neg (by simp [hlength])]
      rfl
    | channel act hk ha =>
      have hlt : f.channel.toNat < 40 := hfield.resolve_left (by simp [hk])
      rw [channelRequest, chanOf_of_lt hlt]
      exact if_neg (by simp [hlength])

/-! ### One reply -/

/-- While the reply queue is full the head of the request queue waits (R195, R197; log entry 19). -/
theorem takeRequest_full {s : State} {f : Frame} {rest : List Frame} {mine : Frame → Bool} {kind : Frame → Byte}
    {act : State → Frame → Answer} (hhigh : s.nrstLow = false) (hhead : s.link.requests = f :: rest) (hm : mine f = true)
    (hfull : 16 ≤ s.link.replies.length) : takeRequest s mine kind act = .next s := by
  simp [takeRequest, unlessHeld, hhigh, hhead, hm, Config.replyMax, Nat.not_lt.2 hfull]

theorem oneAnswer_of_answersKind {kind : Byte} {answer : State → Frame → Answer} (h : AnswersKind kind answer)
    (hk : kind ≠ 0x02) (s : State) (f : Frame) : OneAnswer s (answer s f) := by
  cases h with
  | device act _ ha =>
    unfold deviceRequest
    split
    · exact ha hk s f
    · exact oneAnswer_stands s _ _
  | channel act _ ha =>
    unfold channelRequest
    split
    · exact oneAnswer_stands s _ _
    · split
      · exact ha s f _
      · exact oneAnswer_stands s _ _

/-- A request taken and answered once: its reply is placed at the tail, and a refusal shows in the queues alone. -/
theorem takeHead_replies {s : State} {f : Frame} {rest : List Frame} {kind : Byte} {act : State → Frame → Answer}
    (ha : OneAnswer (dequeued s rest) (act (dequeued s rest) f)) :
    ∃ r : Reply, (s.takeHead f rest kind act).settle.link.requests = rest
      ∧ (s.takeHead f rest kind act).settle.link.replies = s.link.replies ++ [r]
      ∧ (s.takeHead f rest kind act).settle.link.attn = true
      ∧ r.kind = kind ∧ r.channel = f.channel ∧ r.tag = f.tag
      ∧ (Refuses r.code → (s.takeHead f rest kind act).settle = { s with link :=
          { s.link with requests := rest, replies := s.link.replies ++ [r], attn := true } }) := by
  have htaken : s.takeHead f rest kind act = (act (dequeued s rest) f).state.placeReply
      ⟨kind, f.channel, f.tag, (act (dequeued s rest) f).code, (act (dequeued s rest) f).items⟩ := rfl
  obtain ⟨⟨hrequests, hreplies⟩, hrefused⟩ := ha
  rw [htaken]
  refine ⟨⟨kind, f.channel, f.tag, (act (dequeued s rest) f).code, (act (dequeued s rest) f).items⟩, hrequests, ?replies, attnDue_placeReply _ _,
    rfl, rfl, rfl, fun hcode => ?refused⟩
  case replies => exact congrArg (· ++ [_]) hreplies
  case refused => rw [hrefused hcode, settle_placeReply]

/-- Settles O50: by the row of the kind, a known one or UNKNOWN_KIND (log entry 19). -/
theorem oneReplyAndRefusalsChangeNothing : Obligations.OneReplyAndRefusalsChangeNothing := by
  intro s f rest hhigh hhead
  obtain hunknown | hknown := eq_or_ne (requestRow f.kind) .unknownKind
  · rw [hunknown, exec_unknownKind, if_pos rfl]
    have hmine := isUnknownKind_of_requestRow hunknown
    refine ⟨takeRequest_full hhigh hhead hmine, fun hroom _ => ?_⟩
    obtain ⟨r, hreply⟩ := takeHead_replies (s := s) (f := f) (rest := rest) (kind := 0x80) (act := actUnknownKind)
      (oneAnswer_stands _ _ _)
    exact ⟨_, r, takeRequest_of_ready ⟨hhigh, hhead, hroom⟩ hmine _ _, hreply⟩
  · obtain ⟨answer, hanswer, hexec⟩ := exists_answersKind hknown
    rw [hexec, if_neg hknown]
    refine ⟨takeRequest_full hhigh hhead (beq_self_eq_true _), fun hroom hne => ?_⟩
    obtain ⟨r, hreply⟩ := takeHead_replies (s := s) (f := f) (rest := rest) (kind := replyKind f)
      (oneAnswer_of_answersKind hanswer hne (dequeued s rest) f)
    exact ⟨_, r, takeKind_of_ready ⟨hhigh, hhead, hroom⟩ rfl, hreply⟩

end Sys2Proof.Proofs
end

section
/-! PROOF. The requests of a call's life: BIND (R39 to R41), QUIESCE (R47) and RELEASE (R54, R55). -/

namespace Sys2Proof.Proofs
open Sys2Proof.Machine Sys2Proof.Safety Sys2Proof.Laws

/-! ### BIND -/

theorem exec_bind (s : State) : exec .bind s = takeKind 0x10 (channelRequest (lengthIs 4) actBind) s := rfl

theorem slotOf_of_ge {v : Nat} (h : 64 ≤ v) : slotOf v = none := dif_neg (by omega)

theorem slotOf_val (sl : SlotId) : slotOf sl.val = some sl := dif_pos sl.isLt

theorem actBind_malformed {f : Frame} (h : 64 ≤ f.value 0) (s : State) (c : ChanId) :
    actBind s f c = refuse s .malformed := by
  simp only [actBind, slotOf_of_ge h]

theorem actBind_slot {f : Frame} {sl : SlotId} (h : f.value 0 = sl.val) (s : State) (c : ChanId) :
    actBind s f c = if (s.ch c).state ≠ .free then refuse s .wrongState
      else if 7 < f.value 1 then ⟨s, .badProfile, [0]⟩
      else admitIfRoom s c sl (s.profile (f.value 1)) := by
  simp only [actBind, h, slotOf_val]

/-- A FREE channel, a slot of the frame and a profile of the table: what is left is the room (R39). -/
theorem actBind_room {s : State} {f : Frame} {sl : SlotId} {c : ChanId} (hslot : f.value 0 = sl.val)
    (hfree : (s.ch c).state = .free) (hprofile : f.value 1 ≤ 7) :
    actBind s f c = admitIfRoom s c sl (s.profile (f.value 1)) := by
  rw [actBind_slot hslot, if_neg (not_not.2 hfree), if_neg (Nat.not_lt.2 hprofile)]

theorem rebound_eq (c : ChanId) (o : OutFrame) :
    o.rebound c = { o with source := match o.source with
      | .eqBlock d counted => if d = c then .eqBlock d false else .eqBlock d counted
      | other => other } := by
  obtain ⟨bytes, position, source⟩ := o
  cases source with
  | eqBlock d counted =>
    simp only [OutFrame.rebound]
    split <;> rfl
  | reply | notice | removed => rfl

/-- Settles O36: the branches of the act in their order, and the fields of the admitted state. -/
theorem bindAdmitsInOrder : Obligations.BindAdmitsInOrder := by
  intro s f rest c hr hk hc hl p taps need pages
  have taken : ∀ {t : State} {code : ResultCode} {items : List Word},
      actBind (dequeued s rest) f c = ⟨dequeued t rest, code, items⟩ →
      exec .bind s = .next (answered t f rest code items) := fun ha => by
    rw [exec_bind]
    exact takeKind_channelRequest hr hk hc (lengthIs_eq_true.2 hl) ha
  refine ⟨fun h => taken (actBind_malformed h _ _), fun sl hsl => ⟨fun hst => taken ?_, fun hst hprofile => taken ?_,
    fun hst hprofile => ?_⟩⟩
  · rw [actBind_slot hsl]
    exact if_pos hst
  · rw [actBind_slot hsl, dequeued_ch, if_neg (not_not.2 hst)]
    exact if_pos (by omega)
  · have hroom : actBind (dequeued s rest) f c = admitIfRoom (dequeued s rest) c sl p :=
      actBind_room (s := dequeued s rest) hsl hst hprofile
    refine ⟨fun howner => taken (hroom.trans (if_pos howner)), fun howner htaps => taken (hroom.trans ?_),
      fun howner htaps hpages => taken (hroom.trans ?_), fun howner htaps hpages =>
        ⟨s.admitCall c sl p, taken (hroom.trans ?_), ?_⟩⟩
    · exact (if_neg (not_not.2 howner)).trans (if_pos htaps)
    · exact (if_neg (not_not.2 howner)).trans ((if_neg (Nat.not_lt.2 htaps)).trans (if_pos hpages))
    · exact (if_neg (not_not.2 howner)).trans ((if_neg (Nat.not_lt.2 htaps)).trans (if_neg (Nat.not_lt.2 hpages)))
    · refine ⟨rfl, rfl, rfl, fun a => memRead_clearPages _ _ a, State.setCh_ch_same _ _ _,
        fun d hd => State.setCh_ch_ne _ _ _ _ hd, ?_, rfl⟩
      exact congrArg (fun g => { s.link with outFrame := s.link.outFrame.map g }) (funext (rebound_eq c))

/-! ### QUIESCE -/

theorem exec_quiesce (s : State) : exec .quiesce s = takeKind 0x11 (channelRequest (lengthIs 0) actQuiesce) s := rfl

theorem drainAtOnce_empty {s : State} {c : ChanId} (h : (s.ch c).eq.pendingRefs = []) :
    s.drainAtOnce c = (s.setCh c { s.ch c with state := .halted }).raiseCh c (.drained .empty 0) := if_pos h

theorem drainAtOnce_waits {s : State} {c : ChanId} (h : (s.ch c).eq.pendingRefs ≠ [])
    (hst : s.highway.state = .synced) : s.drainAtOnce c = s := by
  rw [State.drainAtOnce, if_neg h, if_neg (by simp [Highway.hunting, hst])]

theorem drainAtOnce_lost {s : State} {c : ChanId} (h : (s.ch c).eq.pendingRefs ≠ [])
    (hst : s.highway.state ≠ .synced) : s.drainAtOnce c = s.endDrainExpiring c .lineLost := by
  rw [State.drainAtOnce, if_neg h, if_pos (by simp [Highway.hunting, hst])]

theorem dequeued_drainAtOnce (s : State) (rest : List Frame) (c : ChanId) :
    (dequeued s rest).drainAtOnce c = dequeued (s.drainAtOnce c) rest := by
  by_cases h : (s.ch c).eq.pendingRefs = []
  · rw [drainAtOnce_empty h, drainAtOnce_empty (s := dequeued s rest) h]
    rfl
  · by_cases hst : s.highway.state = .synced
    · rw [drainAtOnce_waits h hst, drainAtOnce_waits (s := dequeued s rest) h hst]
    · rw [drainAtOnce_lost h hst, drainAtOnce_lost (s := dequeued s rest) h hst]
      rfl

theorem cancelSurvey_highway (s : State) (c : ChanId) : (s.cancelSurvey c).highway = s.highway := by
  rw [cancelSurvey_rest]

/-- Settles O37: by the channel's state, and then by what is pending and by the highway. -/
theorem quiesceDrains : Obligations.QuiesceDrains := by
  intro s f rest c hr hk hc hp hs hn ch draining
  have hlen : lengthIs 0 f.payload.length = true := by rw [hp]; rfl
  have taken : ∀ {t : State} {code : ResultCode} {items : List Word},
      actQuiesce (dequeued s rest) f c = ⟨dequeued t rest, code, items⟩ →
      exec .quiesce s = .next (answered t f rest code items) := fun ha => by
    rw [exec_quiesce]
    exact takeKind_channelRequest hr hk hc hlen ha
  have drains : ∀ {t : State} {st : ChanState}, (s.ch c).state = .opened →
      ((s.cancelSurvey c).setCh c draining).drainAtOnce c = t → (t.ch c).state = st →
      exec .quiesce s = .next (answered t f rest .ok [chanStateWord st]) := fun {t st} ho ht hst => by
    have hquiesce : (dequeued s rest).quiesce c = dequeued t rest := by
      rw [State.quiesce, dequeued_cancelSurvey hs hn, dequeued_modCh, dequeued_drainAtOnce, ← ht]
      rfl
    refine taken ?_
    unfold actQuiesce
    rw [dequeued_ch, ho, hquiesce, ← hst]
    rfl
  have hch : ((s.cancelSurvey c).setCh c draining).ch c = draining := State.setCh_ch_same _ _ _
  refine ⟨fun hst => taken ?_, fun hst => taken ?_, fun ho => ⟨cancelSurvey_noSurvey,
    fun e he hec => cancelSurvey_queued hs he hec, fun i k hk' hkc => cancelSurvey_running hs hn hk' hkc,
    fun hempty => ?_, fun hpending hsync => ?_, fun hpending hlost => ?_⟩⟩
  · unfold actQuiesce
    rw [dequeued_ch]
    obtain h | h := hst <;> rw [h] <;> rfl
  · unfold actQuiesce
    rw [dequeued_ch, hst]
    rfl
  · refine drains (st := .halted) ho ?_ ?_
    · rw [drainAtOnce_empty (by rw [hch]; exact hempty), hch, State.setCh_setCh]
    · exact congrArg Channel.state (State.setCh_ch_same _ _ _)
  · refine drains (st := .draining) ho (drainAtOnce_waits ?_ ?_) (congrArg Channel.state hch)
    · rw [hch]; exact hpending
    · exact (congrArg Highway.state (cancelSurvey_highway s c)).trans hsync
  · refine drains (st := .halted) ho ?_ ?_
    · have hunsynced : ((s.cancelSurvey c).setCh c draining).highway.state ≠ .synced := fun h =>
        hlost ((congrArg Highway.state (cancelSurvey_highway s c)).symm.trans h)
      rw [drainAtOnce_lost (by rw [hch]; exact hpending) hunsynced, endDrainExpiring_eq, hch, State.setCh_setCh]
    · exact congrArg Channel.state (State.setCh_ch_same _ _ _)

/-! ### RELEASE -/

theorem exec_release (s : State) : exec .release s = takeKind 0x12 (channelRequest (lengthIs 0) actRelease) s := rfl

theorem dequeued_withdrawSurvey {s : State} (hs : SurveyUnits s) (hn : NoIdleCorrelator s) (rest : List Frame) (c : ChanId) :
    (dequeued s rest).withdrawSurvey c = dequeued (s.withdrawSurvey c) rest := by
  obtain hv | hv := eq_or_ne (s.ch c).survey .running
  · obtain ⟨i, k, hk, hc⟩ := (hs.running c).1 hv
    rw [withdrawSurvey_running hs hn hk hc (t := dequeued s rest) rfl, withdrawSurvey_running hs hn hk hc rfl,
      dequeued_passedOn]
  · rw [withdrawSurvey_waiting hs hv (t := dequeued s rest) rfl, withdrawSurvey_waiting hs hv rfl]
    rfl

theorem unmap_some {s : State} {c : ChanId} {sl : SlotId} (h : (s.ch c).slot = some sl) :
    s.unmap c = s.setSlot sl none := by
  rw [State.unmap, h]

/-- A RELEASE of a channel that holds a slot, field by field but for the survey unit (R54, R55, R69). -/
theorem release_eq {s : State} {c : ChanId} {sl : SlotId} (h : (s.ch c).slot = some sl) :
    s.release c = { (s.withdrawSurvey c).setCh c (Channel.blank (s.ch c).counters) with
      highway := { s.highway with slotMap := s.highway.slotMap.set sl.val none }
      freePages := s.freePages ++ (s.ch c).pages
      freeTaps := s.freeTaps + (s.ch c).params.taps
      link := s.link.withdraw c } := by
  have hslot : ((s.withdrawSurvey c).ch c).slot = some sl := by rw [survey_withdrawSurvey, h]
  have hhighway : (s.withdrawSurvey c).highway = s.highway := by rw [(withdrawSurvey_granted s c).rest]
  rw [State.release, unmap_some hslot, ← hhighway]
  rfl

theorem dropBlocks_waiting (c : ChanId) (q : List EqBlock) :
    dropBlocks c false q = q.filter fun b => decide (b.channel ≠ c) := rfl

theorem dropBlocks_sending (c : ChanId) (q : List EqBlock) :
    dropBlocks c true q = q.take 1 ++ (q.drop 1).filter fun b => decide (b.channel ≠ c) := rfl

theorem sendingBlock_eq_true {l : Link} {o : OutFrame} {d : ChanId} {counted : Bool} (ho : l.outFrame = some o)
    (h : o.source = .eqBlock d counted) : l.sendingBlock = true := by
  simp only [Link.sendingBlock, ho, h]

theorem sendingBlock_eq_false {l : Link} (h : ∀ o d counted, l.outFrame = some o → o.source ≠ .eqBlock d counted) :
    l.sendingBlock = false := by
  unfold Link.sendingBlock
  split
  next o ho =>
    split
    next d counted hsource => exact absurd hsource (h o d counted ho)
    all_goals rfl
  next => rfl

/-- What a RELEASE leaves of the survey unit and of the channels is its withdrawal from a channel blank already. -/
theorem release_ch (s : State) (c d : ChanId) :
    (s.release c).ch d = ((s.setCh c (Channel.blank (s.ch c).counters)).withdrawSurvey c).ch d :=
  congrArg (fun v : Vector Channel 40 => v[d.val]) (release_withdrawn s c).2

theorem release_ch_same (s : State) (c : ChanId) : (s.release c).ch c = Channel.blank (s.ch c).counters := by
  rw [release_ch, survey_withdrawSurvey, State.setCh_ch_same]

/-- Of a channel whose survey holds no correlator, RELEASE takes the entry in the queue and no more. -/
theorem release_waiting {s : State} {c : ChanId} (hs : SurveyUnits s) (h : (s.ch c).survey ≠ .running) :
    (s.release c).dsu = { s.dsu with queue := s.dsu.queue.filter fun q => decide (q.channel ≠ c) }
      ∧ ∀ d : ChanId, d ≠ c → (s.release c).ch d = s.ch d := by
  have hw := withdrawSurvey_waiting hs h (t := s.setCh c (Channel.blank (s.ch c).counters)) rfl
  refine ⟨?_, fun d hd => ?_⟩
  · rw [(release_withdrawn s c).1, hw]
    rfl
  · rw [release_ch, hw]
    exact State.setCh_ch_ne _ _ _ _ hd

/-- The correlator of a channel released passes on (R146, R158). -/
theorem release_running {s : State} {c : ChanId} {i : Fin 4} {k : Correlator} (hs : SurveyUnits s)
    (hn : NoIdleCorrelator s) (hk : s.dsu.unit i = some k) (hc : k.entry.channel = c) :
    (s.release c).dsu = (passedOn s i).dsu ∧ ∀ d : ChanId, d ≠ c → (s.release c).ch d = (passedOn s i).ch d := by
  have hw := withdrawSurvey_running hs hn hk hc (t := s.setCh c (Channel.blank (s.ch c).counters)) rfl
  refine ⟨?_, fun d hd => ?_⟩
  · rw [(release_withdrawn s c).1, hw]
    exact passedOn_dsu_congr i rfl
  · rw [release_ch, hw]
    exact passedOn_ch_congr (s := s) (t := s.setCh c _) i rfl (State.setCh_ch_ne _ _ _ _ hd)

/-- Settles O38: the fields by `release_eq`, the survey unit by what the channel's survey held. -/
theorem releaseReturnsResources : Obligations.ReleaseReturnsResources := by
  intro s f rest c hr hk hc hp hs hn
  have hlen : lengthIs 0 f.payload.length = true := by rw [hp]; rfl
  have taken : ∀ {t : State} {code : ResultCode} {items : List Word},
      actRelease (dequeued s rest) f c = ⟨dequeued t rest, code, items⟩ →
      exec .release s = .next (answered t f rest code items) := fun ha => by
    rw [exec_release]
    exact takeKind_channelRequest hr hk hc hlen ha
  refine ⟨fun hfree => taken ?refused, fun sl hst hsl => ⟨s.release c, taken ?released, ?_⟩⟩
  case refused =>
    have hno : ((dequeued s rest).ch c).state ∉ [ChanState.opened, .draining, .halted] := by
      rw [dequeued_ch, hfree]
      decide
    exact inStates_of_not_mem hno _
  case released =>
    have hrelease : (dequeued s rest).release c = dequeued (s.release c) rest := by
      rw [release_eq hsl, release_eq (s := dequeued s rest) hsl, dequeued_withdrawSurvey hs hn]
      rfl
    refine (inStates_of_mem (s := dequeued s rest) (mem_held_states hst) _).trans ?_
    rw [hrelease]
    rfl
  have heq := release_eq hsl
  obtain ⟨hpages, hdevice, hprofiles, hlock, hsnapshot⟩ : (s.withdrawSurvey c).pageMem = s.pageMem
      ∧ (s.withdrawSurvey c).device = s.device ∧ (s.withdrawSurvey c).profiles = s.profiles
      ∧ (s.withdrawSurvey c).lock = s.lock ∧ (s.withdrawSurvey c).snapshot = s.snapshot := by
    rw [(withdrawSurvey_granted s c).rest]
    exact ⟨rfl, rfl, rfl, rfl, rfl⟩
  have hlink : (s.release c).link = s.link.withdraw c := by rw [heq]
  have hblank := release_ch_same s c
  have hunits := surveyUnits_release c hs
  have hnone : ((s.release c).ch c).survey = .noSurvey := by rw [hblank]; rfl
  refine ⟨by rw [hblank]; rfl, by rw [hblank]; rfl, by rw [hblank]; rfl, by rw [hblank]; rfl, by rw [heq], by rw [heq],
    by rw [heq]; rfl, ?_, ?_, ?_, ?_, ?_, by rw [hlink]; rfl, ?_, fun hidle => ?_, fun o d counted ho hsource => ?_,
    by rw [hlink]; rfl, fun hv => ?_, fun hv => ?_, fun hv => (release_waiting hs hv).2,
    fun i k hk' hkc => release_running hs hn hk' hkc, queue_absent hunits (by rw [hnone]; nofun),
    fun i k hk' hkc => ?_⟩
  · rw [heq]; exact hpages
  · rw [heq]; exact hdevice
  · rw [heq]; exact hprofiles
  · rw [heq]; exact hlock
  · rw [heq]; exact hsnapshot
  · rw [hlink]
    exact fun q hq => (dropBlocks_sublist c _ _).subset hq
  · rw [hlink, Link.withdraw, sendingBlock_eq_false hidle, dropBlocks_waiting]
  · rw [hlink, Link.withdraw, sendingBlock_eq_true ho hsource, dropBlocks_sending]
  · rw [(release_waiting hs (by rw [hv]; nofun)).1]
    exact congrArg (fun q => { s.dsu with queue := q })
      (dropEntry_of_forall (queue_absent hs (by rw [hv]; nofun)))
  · exact (release_waiting hs (by rw [hv]; nofun)).1
  · have hrunning := (hunits.running c).2 ⟨i, k, hk', hkc⟩
    rw [hnone] at hrunning
    cases hrunning

end Sys2Proof.Proofs
end

section
/-! PROOF. SURVEY (R144, R145) and SURVEY_CANCEL (R155). -/

namespace Sys2Proof.Proofs
open Sys2Proof.Machine Sys2Proof.Safety Sys2Proof.Laws

/-! ### SURVEY -/

theorem exec_survey (s : State) : exec .survey s = takeKind 0x1B (channelRequest (lengthIs 6) actSurvey) s := rfl

theorem actSurvey_open {s : State} {c : ChanId} (h : (s.ch c).state = .opened) (f : Frame) :
    actSurvey s f c = if (s.ch c).survey ≠ .noSurvey then refuse s .already
      else startSurvey s (surveyEntryFor c (s.ch c).params.maxDelay (f.value 0) (f.value 1) (f.flag 2 0) (f.flag 2 1))
        (f.value 0) (f.value 1) := inStates_of_mem (by simp [h]) _

/-- A survey queued while every correlator holds one waits at the queue's tail (R145). -/
theorem queueSurvey_waits {s : State} (h : s.dsu.idleUnit = none) (e : SurveyEntry) :
    s.queueSurvey e = State.setCh { s with dsu := { s.dsu with queue := s.dsu.queue ++ [e] } } e.channel
      { s.ch e.channel with survey := .queued } :=
  grantUpTo_of_noIdle (s := State.setCh { s with dsu := { s.dsu with queue := s.dsu.queue ++ [e] } } e.channel
    { s.ch e.channel with survey := .queued }) (.inr h) 4

/-- A grant to a channel just set acts on what it was set to. -/
theorem grantHead_setCh_same (s : State) (x : Channel) (i : Fin 4) (e : SurveyEntry) (rest : List SurveyEntry) :
    grantHead (s.setCh e.channel x) i e rest
      = (State.setUnit { s with dsu := { s.dsu with queue := rest } } i (some (grantedCorrelator e))).setCh e.channel
          (grantedChannel e x) := by
  rw [grantHead_eq, State.setCh_ch_same]
  exact State.setCh_setCh
    (State.setUnit { s with dsu := { s.dsu with queue := rest } } i (some (grantedCorrelator e))) _ _ _

/-- A survey queued while a correlator is idle, and so none waits, is granted it at once (R146). -/
theorem queueSurvey_granted {s : State} (hq : s.dsu.queue = []) {i : Fin 4} (hi : s.dsu.idleUnit = some i)
    (e : SurveyEntry) :
    s.queueSurvey e
      = (s.setUnit i (some (grantedCorrelator e))).setCh e.channel (grantedChannel e (s.ch e.channel)) := by
  have hhead : s.queueSurvey e = (grantHead (State.setCh { s with dsu := { s.dsu with queue := s.dsu.queue ++ [e] } }
      e.channel { s.ch e.channel with survey := .queued }) i e []).grantUpTo 3 :=
    grantUpTo_head 3 (congrArg (· ++ [e]) hq) hi
  have hempty : State.setUnit { s with dsu := { s.dsu with queue := [] } } i (some (grantedCorrelator e))
      = s.setUnit i (some (grantedCorrelator e)) := by rw [← hq]
  rw [hhead, grantUpTo_of_noIdle (.inl rfl), grantHead_setCh_same]
  exact congrArg (fun u : State => u.setCh e.channel (grantedChannel e (s.ch e.channel))) hempty

/-- The entries ahead of a channel that is not queued, once it joins the tail (R145). -/
theorem entriesAhead_tail {c : ChanId} {q : List SurveyEntry} (h : ∀ e ∈ q, e.channel ≠ c) {e : SurveyEntry}
    (he : e.channel = c) : entriesAhead c (q ++ [e]) = q.length := by
  rw [entriesAhead, List.takeWhile_append_of_pos (by simpa using h), List.takeWhile_cons_of_neg (by simpa using he),
    List.append_nil]

theorem unitOf_absent {s : State} {c : ChanId} (hs : SurveyUnits s) (h : (s.ch c).survey ≠ .running) :
    s.dsu.unitOf c = none := unitOf_eq_none.2 fun i k hk hc => h ((hs.running c).2 ⟨i, k, hk, hc⟩)

/-- The items of a SURVEY whose survey waits (R145). -/
theorem surveyItems_waits {s : State} (hs : SurveyUnits s) (hidle : s.dsu.idleUnit = none) {e : SurveyEntry}
    (hv : (s.ch e.channel).survey = .noSurvey) :
    surveyItems (s.queueSurvey e) e
      = [natWord e.lo, natWord e.hi, natWord e.lagCount, 1, natWord s.dsu.queue.length] := by
  have hout : ∀ q ∈ s.dsu.queue, q.channel ≠ e.channel := queue_absent hs (by rw [hv]; nofun)
  have hunit : (s.queueSurvey e).dsu.unitOf e.channel = none := by
    have habsent : s.dsu.unitOf e.channel = none := unitOf_absent hs (by rw [hv]; nofun)
    rw [queueSurvey_waits hidle]
    exact habsent
  have hqueue : (s.queueSurvey e).dsu.queue = s.dsu.queue ++ [e] := by rw [queueSurvey_waits hidle]; rfl
  have hstate : ((s.queueSurvey e).ch e.channel).survey = .queued := by
    rw [queueSurvey_waits hidle, State.setCh_ch_same]
  simp only [surveyItems, surveyPlace, hunit, hqueue, hstate, entriesAhead_tail hout rfl, surveyStateWord]

/-- The items of a SURVEY whose survey is granted a correlator (R145). -/
theorem surveyItems_granted {s : State} {e : SurveyEntry} (hs : SurveyUnits (s.queueSurvey e)) (hq : s.dsu.queue = [])
    {i : Fin 4} (hi : s.dsu.idleUnit = some i) :
    surveyItems (s.queueSurvey e) e
      = [natWord e.lo, natWord e.hi, natWord e.lagCount, 2, natWord i.val] := by
  have hheld : (s.queueSurvey e).dsu.unit i = some (grantedCorrelator e) := by
    rw [queueSurvey_granted hq hi]
    exact State.setUnit_unit_same s i _
  have hunit : (s.queueSurvey e).dsu.unitOf e.channel = some i := unitOf_holds hs hheld
  have hstate : ((s.queueSurvey e).ch e.channel).survey = .running := by
    rw [queueSurvey_granted hq hi, State.setCh_ch_same]
    rfl
  simp only [surveyItems, surveyPlace, hunit, hstate, surveyStateWord]

/-- Settles O46: by the state, the survey state and the lowest idle correlator. -/
theorem surveyIsQueuedOrGranted : Obligations.SurveyIsQueuedOrGranted := by
  intro s f rest c hr hk hc hl hs hn ch top lo hi count used e code lags waiting unit granted
  have taken : ∀ {t : State} {code : ResultCode} {items : List Word},
      actSurvey (dequeued s rest) f c = ⟨dequeued t rest, code, items⟩ →
      exec .survey s = .next (answered t f rest code items) := fun ha => by
    rw [exec_survey]
    exact takeKind_channelRequest hr hk hc (lengthIs_eq_true.2 hl) ha
  have starts : ch.state = .opened → ch.survey = .noSurvey →
      actSurvey (dequeued s rest) f c = startSurvey (dequeued s rest) e (f.value 0) (f.value 1) := fun ho hv => by
    rw [actSurvey_open (s := dequeued s rest) ho]
    exact if_neg (not_not.2 hv)
  refine ⟨fun hst => taken (inStates_of_not_mem (s := dequeued s rest) (by simpa using hst) _), fun ho hv => taken ?_,
    fun ho hv hidle => taken ((starts ho hv).trans ?_), fun i ho hv hidle => taken ((starts ho hv).trans ?_)⟩
  · rw [actSurvey_open (s := dequeued s rest) ho]
    exact if_pos hv
  · have hs' := surveyUnits_dequeued rest hs
    rw [startSurvey, surveyItems_waits (s := dequeued s rest) (e := e) hs' hidle hv,
      queueSurvey_waits (s := dequeued s rest) hidle]
    rfl
  · have hq : s.dsu.queue = [] := hn.resolve_right (by rw [hidle]; nofun)
    have hs' : SurveyUnits ((dequeued s rest).queueSurvey e) :=
      surveyUnits_act (.queue (dequeued s rest) e ho hv (lagsFit_surveyEntryFor ..)) (surveyUnits_dequeued rest hs)
    rw [startSurvey, surveyItems_granted hs' hq hidle, queueSurvey_granted (s := dequeued s rest) hq hidle]
    rfl

/-! ### SURVEY_CANCEL -/

theorem exec_surveyCancel (s : State) :
    exec .surveyCancel s = takeKind 0x1C (channelRequest (lengthIs 0) actSurveyCancel) s := rfl

/-- The record of a cancelled survey is formed from the survey unit and the channel alone (R155). -/
theorem cancelRecord_dequeued (s : State) (rest : List Frame) (c : ChanId) :
    cancelRecord (dequeued s rest) c = cancelRecord s c := rfl

theorem optionRecordWords_eq (r : Option SurveyRecord) :
    optionRecordWords r = match r with | some r => 1 :: recordWords r | none => List.replicate 17 0 := by
  cases r <;> rfl

/-- Settles O47: no survey, a queued one, or a running one. -/
theorem surveyCancelEnds : Obligations.SurveyCancelEnds := by
  intro s f rest c hr hk hc hp hs hn ch record
  have hlen : lengthIs 0 f.payload.length = true := by rw [hp]; rfl
  have taken : ∀ {t : State} {code : ResultCode} {items : List Word},
      actSurveyCancel (dequeued s rest) f c = ⟨dequeued t rest, code, items⟩ →
      exec .surveyCancel s = .next (answered t f rest code items) := fun ha => by
    rw [exec_surveyCancel]
    exact takeKind_channelRequest hr hk hc hlen ha
  have cancels : ∀ {r : SurveyRecord}, ch.survey ≠ .noSurvey → cancelRecord s c = some r →
      exec .surveyCancel s = .next (answered (s.cancelSurvey c) f rest .ok (recordWords r)) := fun {r} hv hrecord => by
    have hst : ch.state ≠ .free := by rw [hs.opened c hv]; nofun
    refine taken ((inStates_of_mem (s := dequeued s rest) (mem_held_states hst) _).trans ?_)
    rw [cancelRecord_dequeued, hrecord, ← dequeued_cancelSurvey hs hn]
  refine ⟨fun hfree => taken ?refused, fun hst hv => taken ?notFound, fun e he hec => ?queued, fun i k hk' hkc => ?running⟩
  case refused =>
    have hno : ((dequeued s rest).ch c).state ∉ [ChanState.opened, .draining, .halted] := by
      rw [dequeued_ch, show (s.ch c).state = .free from hfree]
      decide
    exact inStates_of_not_mem hno _
  case notFound =>
    refine (inStates_of_mem (s := dequeued s rest) (mem_held_states hst) _).trans ?_
    rw [cancelRecord_dequeued, cancelRecord_noSurvey hv]
    dsimp only
    rw [optionRecordWords_eq]
    rfl
  case queued =>
    have hv : ch.survey ≠ .noSurvey := by rw [(hs.queued c).2 ⟨e, he, hec⟩]; nofun
    rw [cancels hv (cancelRecord_queued hs he hec), cancelSurvey_queued hs he hec]
  case running =>
    have hv : ch.survey ≠ .noSurvey := by rw [(hs.running c).2 ⟨i, k, hk', hkc⟩]; nofun
    rw [cancels hv (cancelRecord_running hs hk' hkc), cancelSurvey_running hs hn hk' hkc]

end Sys2Proof.Proofs
end

section
/-! PROOF. ARBITER_CHOICE (R202) and OUTBOUND_FRAME_COMPLETE (R204): the frame that begins, the one that ends, and the bits on
SDO (R188). -/

namespace Sys2Proof.Proofs
open Sys2Proof.Machine Sys2Proof.Safety Sys2Proof.Laws

/-! ### The bits of bytes -/

theorem getElem?_byteBits (b : Byte) {k : Nat} (h : k < 8) : (byteBits b)[k]? = some (b.getMsbD k) := by
  rw [byteBits, List.getElem?_map, List.getElem?_range h, Option.map_some]

/-- Each byte has its eight bits, one byte after the other (R188). -/
theorem getElem?_flatMap_byteBits (bytes : List Byte) (j : Nat) {k : Nat} (h : k < 8) :
    (bytes.flatMap byteBits)[8 * j + k]? = bytes[j]?.map fun b => b.getMsbD k := by
  induction bytes generalizing j with
  | nil => rfl
  | cons b bs ih =>
    rw [List.flatMap_cons]
    cases j with
    | zero =>
      rw [List.getElem?_append_left (by rw [byteBits_length]; omega), Nat.mul_zero, Nat.zero_add, getElem?_byteBits b h]
      rfl
    | succ j =>
      have hplace : 8 * (j + 1) + k - 8 = 8 * j + k := by omega
      rw [List.getElem?_append_right (by rw [byteBits_length]; omega), byteBits_length, hplace, ih,
        List.getElem?_cons_succ]

theorem outBits_frame {l : Link} {o : OutFrame} (h : l.outFrame = some o) :
    l.outBits = (o.bytes.drop o.position).flatMap byteBits := by
  rw [Link.outBits, h]

theorem sdoBit_frame {l : Link} {o : OutFrame} (h : l.outFrame = some o) (j : Nat) {k : Nat} (hk : k < 8) :
    l.sdoBit (8 * j + k) = o.bytes[o.position + j]?.map fun b => b.getMsbD k := by
  rw [Link.sdoBit, outBits_frame h, getElem?_flatMap_byteBits _ j hk, List.getElem?_drop]

theorem sdoBit_filler {l : Link} (h : l.outFrame = none) (hf : l.filler ≠ .absent) {k : Nat} (hk : k < 8) :
    l.sdoBit k = some ((0 : Byte).getMsbD k) := by
  have hbits : l.outBits = byteBits 0 := by
    rw [Link.outBits, h]
    exact if_neg hf
  rw [Link.sdoBit, hbits, getElem?_byteBits 0 hk]

/-! ### The arbiter -/

theorem exec_arbiterChoice {s : State} (hhigh : s.nrstLow = false) (ho : s.link.outFrame = none) :
    exec .arbiterChoice s = .next (s.modLink Link.nextByte).settle := by
  change execArbiterChoice s = _
  rw [execArbiterChoice, unlessHeld_high _ _ hhigh, ho]
  rfl

theorem nextByte_due {l : Link} (h : l.filler = .due) : l.nextByte = l.sendFiller := if_pos h

theorem nextByte_choose {l : Link} (h : l.filler ≠ .due) : l.nextByte = l.choose := if_neg h

/-- What an arbiter chooses: a frame whose start byte goes out, or filler (R202). -/
theorem nextByte_sends (l : Link) (ho : l.outFrame = none) :
    (∃ f source, l.nextByte.outFrame = some ⟨frameBytes f, 0, source⟩ ∧ l.nextByte.sdo = some startByte)
      ∨ (l.nextByte.outFrame = none ∧ l.nextByte.filler = .clocking ∧ l.nextByte.sdo = some 0) := by
  unfold Link.nextByte
  split
  · exact .inr ⟨ho, rfl, rfl⟩
  · unfold Link.choose
    split
    next r _ _ => exact .inl ⟨replyFrame r, .reply, rfl, rfl⟩
    next n _ _ _ => exact .inl ⟨noticeFrame n, .notice, rfl, rfl⟩
    next q _ _ _ _ => exact .inl ⟨eqBlockFrame q, .eqBlock q.channel true, rfl, rfl⟩
    next => exact .inr ⟨ho, rfl, rfl⟩

theorem choose_reply {l : Link} {r : Reply} {rest : List Reply} (h : l.replies = r :: rest) :
    l.choose = l.beginFrame (replyFrame r) .reply := by
  rw [Link.choose, h]

theorem choose_notice {l : Link} {n : Notice} {rest : List Notice} (hr : l.replies = []) (h : l.notices = n :: rest) :
    l.choose = { l with notices := rest }.beginFrame (noticeFrame n) .notice := by
  rw [Link.choose, hr, h]

theorem choose_block {l : Link} {q : EqBlock} {rest : List EqBlock} (hr : l.replies = []) (hn : l.notices = [])
    (h : l.dataQueue = q :: rest) : l.choose = l.beginFrame (eqBlockFrame q) (.eqBlock q.channel true) := by
  rw [Link.choose, hr, hn, h]

theorem choose_nothing {l : Link} (hr : l.replies = []) (hn : l.notices = []) (hd : l.dataQueue = []) :
    l.choose = l.sendFiller := by
  rw [Link.choose, hr, hn, hd]

/-- A frame that begins while something waits leaves ATTN asserted (R189). -/
theorem settle_begun {s : State} (h : s.link.attn = true) (f : Frame) (source : OutSource) :
    (s.modLink fun l => l.beginFrame f source).settle = s.modLink fun l => l.beginFrame f source :=
  settle_self (by simp [AttnFollows, State.modLink, Link.beginFrame, attnDue, h])

/-- Settles O27: the filler byte that was cut, and then the branches of the choice. -/
theorem arbiterChoosesInOrder : Obligations.ArbiterChoosesInOrder := by
  intro s hhigh ho ha begun filled
  have hexec := exec_arbiterChoice hhigh ho
  have hfilled : (s.modLink Link.sendFiller).settle = filled :=
    settle_self (show filled.link.attn = attnDue filled.link from ha)
  refine ⟨⟨_, hexec, fun clock hclock => ?bits⟩, fun hdue => ?due, fun r rest hdue hr => ?reply,
    fun n rest hdue hr hn => ?notice, fun q rest hdue hr hn hd => ?block, fun hdue hr hn hd => ?nothing⟩
  case bits =>
    change s.link.nextByte.sdoBit clock = s.link.nextByte.sdo.map _
    obtain ⟨f, source, hframe, hsdo⟩ | ⟨hnone, hfiller, hsdo⟩ := nextByte_sends s.link ho
    · have hbit := sdoBit_frame hframe 0 hclock
      rw [Nat.mul_zero, Nat.zero_add] at hbit
      rw [hbit, hsdo]
      rfl
    · rw [sdoBit_filler hnone (by rw [hfiller]; nofun) hclock, hsdo]
      rfl
  case due => rw [hexec, State.modLink, nextByte_due hdue]; exact congrArg _ hfilled
  case reply =>
    have hattn : s.link.attn = true := by rw [ha]; simp [attnDue, hr]
    rw [hexec, State.modLink, nextByte_choose hdue, choose_reply hr]
    exact congrArg _ (settle_begun hattn _ _)
  case notice =>
    have hattn : s.link.attn = true := by rw [ha]; simp [attnDue, hn]
    rw [hexec, State.modLink, nextByte_choose hdue, choose_notice hr hn]
    exact congrArg _ (settle_begun (s := { s with link := { s.link with notices := rest } }) hattn _ _)
  case block =>
    have hattn : s.link.attn = true := by rw [ha]; simp [attnDue, hd]
    rw [hexec, State.modLink, nextByte_choose hdue, choose_block hr hn hd]
    exact congrArg _ (settle_begun hattn _ _)
  case nothing =>
    rw [hexec, State.modLink, nextByte_choose hdue, choose_nothing hr hn hd]
    exact congrArg _ hfilled

/-! ### The outbound frame -/

theorem exec_outboundFrameComplete {s : State} {o : OutFrame} (n : Nat) (hhigh : s.nrstLow = false)
    (ho : s.link.outFrame = some o) :
    exec (.outboundFrameComplete n) s = .next
      (if o.bytes.length ≤ o.position + n then
        (s.modLink fun l => l.sentUpTo o (min (o.position + n) o.bytes.length)).completeFrame o.source
      else s.modLink fun l => l.sentUpTo o (min (o.position + n) o.bytes.length)).settle := by
  change execOutboundFrameComplete n s = _
  rw [execOutboundFrameComplete, unlessHeld_high _ _ hhigh, ho]
  rfl

theorem sentUpTo_advanced {l : Link} {o : OutFrame} {p : Nat} (h : o.position < p) :
    l.sentUpTo o p = { l with
      outFrame := some { o with position := p }, sdo := some (o.bytes.getD (p - 1) 0) } := by
  rw [Link.sentUpTo, if_pos h]

/-- While a frame goes out ATTN is asserted (R189). -/
theorem settle_sending {t : State} {o : OutFrame} (h : t.link.outFrame = some o) :
    t.settle = { t with link := { t.link with attn := true } } := by
  have hdue : attnDue t.link = true := by simp [attnDue, h]
  rw [State.settle, State.modLink, hdue]

/-- With no frame going out ATTN follows the three queues (R189). -/
theorem settle_sent {t : State} (h : t.link.outFrame = none) :
    t.settle = { t with link :=
      { t.link with attn := !t.link.replies.isEmpty || !t.link.notices.isEmpty || !t.link.dataQueue.isEmpty } } := by
  have hdue : attnDue t.link = (!t.link.replies.isEmpty || !t.link.notices.isEmpty || !t.link.dataQueue.isEmpty) := by
    simp [attnDue, h]
  rw [State.settle, State.modLink, hdue]

/-- Settles O28: short of the last byte, and with it by the frame's source. -/
theorem outboundFrameEnds : Obligations.OutboundFrameEnds := by
  intro s o n hhigh ho hn hpos ended
  have hexec := exec_outboundFrameComplete n hhigh ho
  refine ⟨fun j clock hclock => ?bits, fun hshort => ?advances, fun hlast => ?ends⟩
  case bits =>
    rw [sdoBit_frame ho j hclock]
    split
    next hlt => rw [List.getElem?_eq_getElem hlt, List.getD_eq_getElem _ _ hlt, Option.map_some]
    next hge => rw [List.getElem?_eq_none (by omega), Option.map_none]
  case advances =>
    rw [hexec, if_neg (by omega), min_eq_left hshort.le, State.modLink, sentUpTo_advanced (by omega),
      settle_sending (o := { o with position := o.position + n }) rfl]
  case ends =>
    have hsent : (s.modLink fun l => l.sentUpTo o (min (o.position + n) o.bytes.length))
        = { s with link := { s.link with
            outFrame := some { o with position := o.bytes.length }
            sdo := some (o.bytes.getD (o.bytes.length - 1) 0) } } := by
      rw [min_eq_right hlast, State.modLink, sentUpTo_advanced hpos]
    rw [hexec, if_pos hlast, hsent]
    refine ⟨fun hsource => ?_, fun hsource => ?_, fun c hsource => ?_, fun c hsource => ?_⟩
    · rw [hsource, settle_sent rfl]
      rfl
    · obtain hsource | hsource := hsource <;> rw [hsource, settle_sent rfl] <;> rfl
    · rw [hsource, settle_sent rfl]
      rfl
    · rw [hsource, settle_sent rfl]
      rfl

end Sys2Proof.Proofs
end

section
/-! PROOF. CHIP_SELECT_RISE and INBOUND_BYTE (R188, R191), TX_BLOCK (R72 to R74) and REF_BLOCK (R134 to R137). -/

namespace Sys2Proof.Proofs
open Sys2Proof.Machine Sys2Proof.Safety Sys2Proof.Laws

/-! ### Bits and bytes in -/

theorem exec_chipSelectRise {s : State} (h : s.nrstLow = false) :
    exec .chipSelectRise s
      = (s.modLink fun l => { l with spiBits := [], sdo := none, filler := l.fillerAtRise }).done := by
  change execChipSelectRise s = _
  rw [execChipSelectRise, unlessHeld_high _ _ h]

theorem fillerAtRise_eq (l : Link) :
    l.fillerAtRise = if l.filler ≠ .clocking then l.filler else if l.spiBits = [] then .absent else .due := by
  unfold Link.fillerAtRise
  cases l.filler <;> rfl

/-- What an INBOUND_BYTE does is by what its bits bring about (R188, R191). -/
theorem exec_inboundByte {s : State} (h : s.nrstLow = false) (sdi : List Bool) :
    exec (.inboundByte sdi) s = match rxEvent s.link sdi with
      | .part bits => (s.modLink fun l => { l with spiBits := bits }).done
      | .gather st bytes => (s.setReceiver st bytes).done
      | .overrun | .discard _ | .accept _ => .refused .otherInboundEvent := by
  change execInboundByte sdi s = _
  exact unlessHeld_high _ _ h

theorem rxEvent_part {l : Link} {sdi : List Bool} (h : (l.spiBits ++ sdi).length < 8) :
    rxEvent l sdi = .part (l.spiBits ++ sdi) := if_pos h

theorem rxEvent_byte {l : Link} {sdi : List Bool} (h : (l.spiBits ++ sdi).length = 8) :
    rxEvent l sdi = byteEvent l (byteOfBits (l.spiBits ++ sdi)) := (if_neg (by omega)).trans (if_pos h)

theorem rxEvent_overrun {l : Link} {sdi : List Bool} (h : 8 < (l.spiBits ++ sdi).length) :
    rxEvent l sdi = .overrun := (if_neg (by omega)).trans (if_neg (by omega))

theorem byteEvent_hunt {l : Link} (h : l.rxBytes = []) (b : Byte) :
    byteEvent l b = if b = startByte then .gather .header [b] else .gather .hunt [] := by
  rw [byteEvent, h]

theorem byteEvent_held {l : Link} (h : l.rxBytes ≠ []) {b : Byte} {st : RxState}
    (hparse : parseFrame (l.rxBytes ++ [b]) = .incomplete st) : byteEvent l b = .gather st (l.rxBytes ++ [b]) := by
  obtain ⟨start, held, hbytes⟩ := List.exists_cons_of_ne_nil h
  rw [hbytes, List.cons_append] at hparse
  simp only [byteEvent, hbytes, hparse, List.cons_append]

/-- The receiver has no part in ATTN (R189). -/
theorem attnFollows_receiver {s : State} (h : AttnFollows s) (st : RxState) (bytes : List Byte) (bits : List Bool) :
    AttnFollows { s with link := { s.link with rxState := st, rxBytes := bytes, spiBits := bits } } := h

theorem done_setReceiver {s : State} (h : AttnFollows s) (st : RxState) (bytes : List Byte) :
    (s.setReceiver st bytes).done = .next (s.setReceiver st bytes) := done_self (s := s.setReceiver st bytes) h

/-- Settles O21: the rise of the chip select, and the branches of the inbound bits (log entries 8 and 10). -/
theorem receiverGathers : Obligations.ReceiverGathers := by
  intro s sdi hhigh ha bits b
  have hexec := exec_inboundByte hhigh sdi
  have gathers : ∀ {st : RxState} {bytes : List Byte}, bits.length = 8 → byteEvent s.link b = .gather st bytes →
      exec (.inboundByte sdi) s = .next (s.setReceiver st bytes) := fun hbits hevent => by
    rw [hexec, rxEvent_byte hbits, hevent]
    exact done_setReceiver ha _ _
  refine ⟨?rise, fun hlt => ?part, fun hgt => ?excess, fun hbits hnone hb => ?filler, fun hbits hnone hb => ?start,
    fun st hbits hheld hparse => gathers hbits (byteEvent_held hheld hparse)⟩
  case rise =>
    rw [exec_chipSelectRise hhigh, State.modLink, fillerAtRise_eq]
    exact done_self (s := { s with link := { s.link with
      spiBits := []
      sdo := none
      filler := if s.link.filler ≠ .clocking then s.link.filler else if s.link.spiBits = [] then .absent else .due } }) ha
  case part =>
    rw [hexec, rxEvent_part hlt]
    exact done_self (s := s.modLink fun l => { l with spiBits := bits }) ha
  case excess => rw [hexec, rxEvent_overrun hgt]
  case filler =>
    exact gathers hbits ((byteEvent_hunt hnone b).trans (if_neg hb))
  case start =>
    rw [gathers hbits ((byteEvent_hunt hnone b).trans (if_pos hb)), hb]
    rfl

/-! ### Data blocks -/

theorem exec_txBlock {s : State} {sdi : List Bool} {f : Frame} (hc : Completes s sdi f) (hk : f.kind = 0x20) :
    exec (.txBlock sdi) s = (arriveTxBlock (hunting s) f).done := by
  change execTxBlock sdi s = _
  simp only [execTxBlock, unlessHeld_high _ _ hc.high, rxEvent_of_completes hc, setReceiver_hunt_nil]
  exact if_pos hk

theorem exec_refBlock {s : State} {sdi : List Bool} {f : Frame} (hc : Completes s sdi f) (hk : f.kind = 0x21) :
    exec (.refBlock sdi) s = (arriveRefBlock (hunting s) f).done := by
  change execRefBlock sdi s = _
  simp only [execRefBlock, unlessHeld_high _ _ hc.high, rxEvent_of_completes hc, setReceiver_hunt_nil]
  exact if_pos hk

theorem hunting_ch (s : State) (c : ChanId) : (hunting s).ch c = s.ch c := rfl

/-- A change of the device or of a channel leaves ATTN as it follows (R189). -/
theorem done_hunting_setCh {s : State} (ha : AttnFollows s) (c : ChanId) (x : Channel) :
    ((hunting s).setCh c x).done = .next ((hunting s).setCh c x) := done_self (s := (hunting s).setCh c x) ha

theorem done_unbound {s : State} (ha : AttnFollows s) :
    (hunting s).countUnbound.done = .next
      { hunting s with device := { s.device with unboundBlocks := s.device.unboundBlocks + 1 } } :=
  done_self (s := (hunting s).countUnbound) ha

theorem payloadWords_length_of_eq {l : List Byte} {n : Nat} (h : l.length = 2 * n) : (payloadWords l).length = n := by
  rw [payloadWords_length]
  omega

/-! ### TX_BLOCK -/

theorem arriveTxBlock_bound {f : Frame} {c : ChanId} (h : f.channel = chanByte c) (s : State) :
    arriveTxBlock s f = takeTxBlock s c f.payload := by
  simp only [arriveTxBlock, h, chanOf_chanByte]

theorem takeTxBlock_dropped {s : State} {c : ChanId} {payload : List Byte} (ho : (s.ch c).state = .opened)
    (h : payload.length ≠ 2 * (s.ch c).params.blockSize ∨ 320 < (s.ch c).tx.queue.length + (s.ch c).params.blockSize) :
    takeTxBlock s c payload = s.setCh c { s.ch c with
      counters := { (s.ch c).counters with txBlocksDropped := (s.ch c).counters.txBlocksDropped + 1 } } := by
  unfold takeTxBlock
  dsimp only
  rw [if_neg (not_not.2 ho)]
  split
  · rfl
  · next hlen => exact if_pos (h.resolve_left hlen)

theorem takeTxBlock_queued {s : State} {c : ChanId} {payload : List Byte} (ho : (s.ch c).state = .opened)
    (hlen : payload.length = 2 * (s.ch c).params.blockSize)
    (hroom : (s.ch c).tx.queue.length + (s.ch c).params.blockSize ≤ 320) :
    takeTxBlock s c payload = (s.setCh c (appendSamples (s.ch c) (payloadWords payload)).channel).raiseOpt c
      (appendSamples (s.ch c) (payloadWords payload)).notice := by
  unfold takeTxBlock
  dsimp only
  rw [if_neg (not_not.2 ho), if_neg (not_not.2 hlen)]
  exact if_neg (Nat.not_lt.2 hroom)

/-- Samples that join the queue without TX_HIGH (R81, R82). -/
theorem appendSamples_quiet {ch : Channel} {samples : List Sample}
    (h : ¬ (ch.params.txHigh < (ch.tx.queue ++ samples).length ∧ ch.tx.highArm = .armed)) :
    appendSamples ch samples =
      ⟨{ ch with tx := { ch.tx with
          queue := ch.tx.queue ++ samples
          lowArm := if ch.params.txLow ≤ (ch.tx.queue ++ samples).length then .armed else ch.tx.lowArm } }, none⟩ := by
  have hquiet : (decide (ch.params.txHigh < (ch.tx.queue ++ samples).length) && decide (ch.tx.highArm = .armed)) = false := by
    rw [← Bool.not_eq_true, Bool.and_eq_true, decide_eq_true_iff, decide_eq_true_iff]
    exact h
  rw [appendSamples, hquiet]
  rfl

/-- Samples that join the queue above tx_high while TX_HIGH is armed (R81, R82). -/
theorem appendSamples_high {ch : Channel} {samples : List Sample}
    (hlevel : ch.params.txHigh < (ch.tx.queue ++ samples).length) (harm : ch.tx.highArm = .armed) :
    appendSamples ch samples =
      ⟨{ ch with tx := { ch.tx with
          queue := ch.tx.queue ++ samples
          lowArm := if ch.params.txLow ≤ (ch.tx.queue ++ samples).length then .armed else ch.tx.lowArm
          highArm := .disarmed } }, some (.txHigh (ch.tx.queue ++ samples).length)⟩ := by
  have hhigh : (decide (ch.params.txHigh < (ch.tx.queue ++ samples).length) && decide (ch.tx.highArm = .armed)) = true := by
    rw [Bool.and_eq_true, decide_eq_true_iff, decide_eq_true_iff]
    exact ⟨hlevel, harm⟩
  rw [appendSamples, hhigh]
  rfl

/-- Settles O24: no channel, not OPEN, dropped, or queued with or without TX_HIGH. -/
theorem txBlockTakenOrDropped : Obligations.TxBlockTakenOrDropped := by
  intro s sdi f hc ha hk unbound
  have hexec := exec_txBlock hc hk
  refine ⟨fun h40 => ?_, fun c hchannel => ?_⟩
  · rw [hexec, arriveTxBlock, chanOf_of_ge h40]
    exact done_unbound ha
  · intro ch queue dropped took
    rw [hexec, arriveTxBlock_bound hchannel]
    refine ⟨fun hst => ?_, fun ho hbad => ?_, fun ho hlen hroom => ⟨fun hquiet => ?_, fun hlevel harm => ?_⟩⟩
    · have hunbound : takeTxBlock (hunting s) c f.payload = (hunting s).countUnbound := if_pos hst
      rw [hunbound]
      exact done_unbound ha
    · rw [takeTxBlock_dropped (s := hunting s) ho hbad]
      exact done_hunting_setCh ha c _
    · rw [takeTxBlock_queued (s := hunting s) ho hlen hroom, hunting_ch, appendSamples_quiet hquiet]
      exact done_hunting_setCh ha c _
    · rw [takeTxBlock_queued (s := hunting s) ho hlen hroom, hunting_ch, appendSamples_high hlevel harm]
      exact done_raiseCh _ c _

/-! ### REF_BLOCK -/

theorem arriveRefBlock_bound {f : Frame} {c : ChanId} (h : f.channel = chanByte c) (s : State) :
    arriveRefBlock s f = takeRefBlock s c f.payload := by
  simp only [arriveRefBlock, h, chanOf_chanByte]

theorem takeRefBlock_unbound {s : State} {c : ChanId} (h : (s.ch c).state = .free ∨ (s.ch c).state = .halted)
    (payload : List Byte) : takeRefBlock s c payload = s.countUnbound := by
  have hno : (s.ch c).state ≠ .opened ∧ (s.ch c).state ≠ .draining := by
    obtain h | h := h <;> rw [h] <;> exact ⟨nofun, nofun⟩
  exact if_pos hno

theorem takeRefBlock_wrongLength {s : State} {c : ChanId} {payload : List Byte}
    (hst : (s.ch c).state = .opened ∨ (s.ch c).state = .draining)
    (hlen : payload.length ≠ 4 + 2 * (s.ch c).params.blockSize) :
    takeRefBlock s c payload = s.count c fun k => { k with refsUnknown := k.refsUnknown + 1 } :=
  (if_neg (by tauto)).trans (if_pos hlen)

theorem takeRefBlock_acts {s : State} {c : ChanId} {f : Frame}
    (hst : (s.ch c).state = .opened ∨ (s.ch c).state = .draining)
    (hlen : f.payload.length = 4 + 2 * (s.ch c).params.blockSize) :
    takeRefBlock s c f.payload = actOnRef s c (f.word 0) (f.flag 1 0) ((payloadWords f.payload).drop 2) :=
  (if_neg (by tauto)).trans (if_neg (not_not.2 hlen))

theorem classifyRef_noMatch {ch : Channel} {seq : Word} (h : ∀ e ∈ ch.eq.pendingRefs, e.seq ≠ seq) :
    classifyRef ch seq
      = if ch.eq.issued = true ∧ (ch.eq.nextSeq - 1 - seq).toNat < 32768 then .isLate else .isUnknown :=
  if_neg (by simpa using h)

/-- Settles O25: no channel, neither OPEN nor DRAINING, the wrong length, late, or unknown. -/
theorem refBlockWithoutMatch : Obligations.RefBlockWithoutMatch := by
  intro s sdi f hc ha hk unbound
  have hexec := exec_refBlock hc hk
  refine ⟨fun h40 => ?_, fun c hchannel => ?_⟩
  · rw [hexec, arriveRefBlock, chanOf_of_ge h40]
    exact done_unbound ha
  · intro ch behind unknown late
    rw [hexec, arriveRefBlock_bound hchannel]
    refine ⟨fun hst => ?_, fun hst hlen => ?_, fun hst hlen hno => ?_⟩
    · rw [takeRefBlock_unbound (s := hunting s) hst]
      exact done_unbound ha
    · rw [takeRefBlock_wrongLength (s := hunting s) hst hlen]
      exact done_hunting_setCh ha c _
    · rw [takeRefBlock_acts (s := hunting s) hst hlen, actOnRef, hunting_ch, classifyRef_noMatch hno]
      refine ⟨fun hbehind => ?_, fun hbehind => ?_⟩
      · rw [if_pos hbehind]
        exact done_hunting_setCh ha c _
      · rw [if_neg hbehind]
        exact done_hunting_setCh ha c _

/-! ### A reference that matches -/

theorem classifyRef_match {ch : Channel} {seq : Word} {e : PendingEntry} (he : e ∈ ch.eq.pendingRefs)
    (hseq : e.seq = seq) : classifyRef ch seq = .isMatch := by
  have hany : (ch.eq.pendingRefs.any fun e => e.seq == seq) = true := List.any_eq_true.2 ⟨e, he, beq_iff_eq.2 hseq⟩
  exact if_pos hany

theorem fromEntry_split {seq : Word} {older newer : List PendingEntry} {e : PendingEntry}
    (holder : ∀ o ∈ older, o.seq ≠ seq) (he : e.seq = seq) : fromEntry seq (older ++ e :: newer) = e :: newer := by
  rw [fromEntry, List.dropWhile_append_of_pos (by simpa using holder), List.dropWhile_cons_of_neg (by simp [he])]

theorem olderEntries_split {seq : Word} {older newer : List PendingEntry} {e : PendingEntry}
    (holder : ∀ o ∈ older, o.seq ≠ seq) (he : e.seq = seq) : olderEntries seq (older ++ e :: newer) = older := by
  rw [olderEntries, List.takeWhile_append_of_pos (by simpa using holder), List.takeWhile_cons_of_neg (by simp [he]),
    List.append_nil]

theorem eqShift_eq (ch : Channel) :
    eqShift ch = if ch.eq.mode = .track then ch.params.eqTrackShift else ch.params.eqTrainShift := by
  unfold eqShift
  cases ch.eq.mode <;> rfl

/-- A matched entry's own effect in the words of the statement: erased, learned from, or nothing (R136, R137). -/
theorem consumeEntry_eq (ch : Channel) (e : PendingEntry) (erase : Bool) (refs : List Sample) :
    consumeEntry ch e erase refs =
      if erase then { ch with counters := { ch.counters with refsErased := ch.counters.refsErased + 1 } }
      else if ch.eq.mode = .train ∨ ch.eq.mode = .track then
        { ch with
          eq := { ch.eq with
            taps := (applyErrors (12 + eqShift ch) ch refs e.outputs e.positions).eq.taps }
          quality :=
            { ch.quality with
              pErr := (applyErrors (12 + eqShift ch) ch refs e.outputs e.positions).quality.pErr
              errorCount := (applyErrors (12 + eqShift ch) ch refs e.outputs e.positions).quality.errorCount }
          counters := { ch.counters with refsApplied := ch.counters.refsApplied + 1 } }
      else ch := by
  obtain ⟨taps, pErr, n, -, -, -, hlearned⟩ := applyErrors_frame (12 + eqShift ch) ch refs e.outputs e.positions
  simp only [consumeEntry, hlearned]

/-- A match's context: the older entries missed, the entry gone, and its effect (R136). -/
theorem matchRef_split {ch : Channel} {seq : Word} {older newer : List PendingEntry} {e : PendingEntry} (erase : Bool)
    (refs : List Sample) (hlist : ch.eq.pendingRefs = older ++ e :: newer) (holder : ∀ o ∈ older, o.seq ≠ seq)
    (he : e.seq = seq) :
    matchRef ch seq erase refs = consumeEntry { ch with
      eq := { ch.eq with pendingRefs := newer }
      counters := { ch.counters with refsMissed := ch.counters.refsMissed + BitVec.ofNat 32 older.length } } e erase refs := by
  simp only [matchRef, hlist, fromEntry_split holder he, olderEntries_split holder he]

theorem consumeEntry_keeps (ch : Channel) (e : PendingEntry) (erase : Bool) (refs : List Sample) :
    (consumeEntry ch e erase refs).state = ch.state
      ∧ (consumeEntry ch e erase refs).eq.pendingRefs = ch.eq.pendingRefs := by
  obtain ⟨taps, pErr, n, k, -, -, -, h⟩ := consumeEntry_frame ch e erase refs
  rw [h]
  exact ⟨rfl, rfl⟩

/-- Settles O26: the match, and then whether it empties a drain. -/
theorem refBlockMatch : Obligations.RefBlockMatch := by
  intro s sdi f c older newer e hc ha hk hchannel hst hlen hlist holder he ch missed adapts shift refs left learned acted
  have hmem : e ∈ ch.eq.pendingRefs := hlist ▸ List.mem_append_right _ (.head _)
  have hacted : matchRef ch (f.word 0) (f.flag 1 0) refs = acted := by
    rw [matchRef_split _ _ hlist holder he, consumeEntry_eq, eqShift_eq]
  have hkeeps : acted.state = ch.state ∧ acted.eq.pendingRefs = newer := by
    rw [← hacted, matchRef_split _ _ hlist holder he]
    exact consumeEntry_keeps _ _ _ _
  have hexec : exec (.refBlock sdi) s = (((hunting s).setCh c acted).drainIfEmpty c).done := by
    rw [exec_refBlock hc hk, arriveRefBlock_bound hchannel, takeRefBlock_acts (s := hunting s) hst hlen, actOnRef,
      hunting_ch, classifyRef_match hmem he, ← hacted]
    rfl
  have hch : ((hunting s).setCh c acted).ch c = acted := State.setCh_ch_same _ _ _
  refine ⟨fun hstays => ?_, fun hdrains hempty => ?_⟩
  · have hno : ¬ (acted.state = .draining ∧ acted.eq.pendingRefs = []) := by
      rw [hkeeps.1, hkeeps.2]
      rintro ⟨hdraining, hnil⟩
      obtain hopen | hne := hstays
      · rw [hopen] at hdraining; cases hdraining
      · exact hne hnil
    rw [hexec, State.drainIfEmpty, hch, if_neg hno]
    exact done_hunting_setCh ha c _
  · have hyes : acted.state = .draining ∧ acted.eq.pendingRefs = [] := ⟨hkeeps.1.trans hdrains, hkeeps.2.trans hempty⟩
    rw [hexec, State.drainIfEmpty, hch, if_pos hyes, State.endDrain, done_raiseCh, State.modCh, hch, State.setCh_setCh]

end Sys2Proof.Proofs
end

section
/-! PROOF. The frames of the link (R190, R191, R208): when the bytes from a start byte on are a frame, the layout of what the
part sends, and the bits of words and samples (R18, R21, R188). -/

namespace Sys2Proof.Proofs
open Sys2Proof.Machine Sys2Proof.Safety Sys2Proof.Laws

/-! ### Reading a frame -/

/-- The payload length that a frame's two length bytes carry (R190). -/
def carriedLength (l0 l1 : Byte) : Nat := l0.toNat + 256 * l1.toNat

theorem toNat_append_bytes (l0 l1 : Byte) : (l1 ++ l0).toNat = carriedLength l0 l1 := by
  rw [BitVec.toNat_append, ← Nat.shiftLeft_add_eq_or_of_lt l0.isLt, Nat.shiftLeft_eq, carriedLength]
  omega

/-- The bytes that the check covers, up to the payload. -/
def coveredBytes (kind channel tag l0 l1 : Byte) (payload : List Byte) : List Byte :=
  kind :: channel :: tag :: l0 :: l1 :: payload

theorem parseFrame_eq (start kind channel tag l0 l1 : Byte) (body : List Byte) :
    parseFrame (start :: kind :: channel :: tag :: l0 :: l1 :: body) =
      if 1024 < carriedLength l0 l1 then .bad
      else if body.length < carriedLength l0 l1 + 2 then .incomplete .body
      else if wordBytes (checkOf (coveredBytes kind channel tag l0 l1 (body.take (carriedLength l0 l1))))
          = (body.drop (carriedLength l0 l1)).take 2 then
        .complete ⟨kind, channel, tag, body.take (carriedLength l0 l1)⟩ (body.drop (carriedLength l0 l1 + 2))
      else .bad := by
  rw [← toNat_append_bytes]
  rfl

theorem parseFrame_short {l : List Byte} (h : l.length < 6) : parseFrame l = .incomplete .header := by
  match l, h with
  | [], _ | [_], _ | [_, _], _ | [_, _, _], _ | [_, _, _, _], _ | [_, _, _, _, _], _ => rfl

/-- Six bytes or more are a start byte, the five bytes of the head and a body. -/
theorem exists_six {l : List Byte} (h : 6 ≤ l.length) :
    ∃ start kind channel tag l0 l1 body, l = start :: kind :: channel :: tag :: l0 :: l1 :: body := by
  match l, h with
  | start :: kind :: channel :: tag :: l0 :: l1 :: body, _ => exact ⟨start, kind, channel, tag, l0, l1, body, rfl⟩

theorem wordBytes_eq (w : Word) : wordBytes w = [w.setWidth 8, (w >>> 8).setWidth 8] := rfl

theorem carriedLength_wordBytes {n : Nat} (h : n ≤ 1024) :
    carriedLength ((BitVec.ofNat 16 n).setWidth 8) ((BitVec.ofNat 16 n >>> 8).setWidth 8) = n := by
  simp only [carriedLength, BitVec.toNat_setWidth, BitVec.toNat_ushiftRight, BitVec.toNat_ofNat, Nat.shiftRight_eq_div_pow]
  omega

theorem frameBytes_eq (f : Frame) :
    frameBytes f = 0xC3 :: f.kind :: f.channel :: f.tag :: (BitVec.ofNat 16 f.payload.length).setWidth 8
      :: (BitVec.ofNat 16 f.payload.length >>> 8).setWidth 8
      :: (f.payload ++ wordBytes (checkOf (coveredBytes f.kind f.channel f.tag
        ((BitVec.ofNat 16 f.payload.length).setWidth 8) ((BitVec.ofNat 16 f.payload.length >>> 8).setWidth 8)
        f.payload))) := rfl

/-- A frame of the part's own making is read back whole (R190, R191). -/
theorem parseFrame_frameBytes {f : Frame} (h : f.payload.length ≤ 1024) (rest : List Byte) :
    parseFrame (frameBytes f ++ rest) = .complete f rest := by
  have hbody : ∀ check : List Byte, check.length = 2 →
      ((f.payload ++ check) ++ rest).take f.payload.length = f.payload
        ∧ (((f.payload ++ check) ++ rest).drop f.payload.length).take 2 = check
        ∧ ((f.payload ++ check) ++ rest).drop (f.payload.length + 2) = rest
        ∧ f.payload.length + 2 ≤ ((f.payload ++ check) ++ rest).length := fun check hcheck => by
    refine ⟨?_, ?_, ?_, ?_⟩
    · rw [List.append_assoc, List.take_left]
    · rw [List.append_assoc, List.drop_left, ← hcheck, List.take_left]
    · rw [← hcheck, ← List.length_append, List.drop_left]
    · simp only [List.length_append]
      omega
  obtain ⟨htake, hcheck, hrest, hlen⟩ := hbody (wordBytes (checkOf (coveredBytes f.kind f.channel f.tag
    ((BitVec.ofNat 16 f.payload.length).setWidth 8) ((BitVec.ofNat 16 f.payload.length >>> 8).setWidth 8) f.payload))) rfl
  rw [frameBytes_eq]
  simp only [List.cons_append]
  rw [parseFrame_eq, carriedLength_wordBytes h, if_neg (by omega), if_neg (by omega), htake, hcheck, if_pos rfl, hrest]

theorem setWidth_ofNat_carriedLength {l0 l1 : Byte} :
    (BitVec.ofNat 16 (carriedLength l0 l1)).setWidth 8 = l0
      ∧ (BitVec.ofNat 16 (carriedLength l0 l1) >>> 8).setWidth 8 = l1 := by
  have h0 := l0.isLt
  have h1 := l1.isLt
  constructor <;> refine BitVec.eq_of_toNat_eq ?_ <;>
    simp only [carriedLength, BitVec.toNat_setWidth, BitVec.toNat_ushiftRight, BitVec.toNat_ofNat,
      Nat.shiftRight_eq_div_pow] <;> omega

/-- The bytes of an accepted frame are its own, and its payload is at most 1024 bytes long (R191, R192). -/
theorem frameBytes_of_parseFrame {kind channel tag l0 l1 : Byte} {body : List Byte} {f : Frame} {rest : List Byte}
    (h : parseFrame (0xC3 :: kind :: channel :: tag :: l0 :: l1 :: body) = .complete f rest) :
    0xC3 :: kind :: channel :: tag :: l0 :: l1 :: body = frameBytes f ++ rest ∧ f.payload.length ≤ 1024 := by
  rw [parseFrame_eq] at h
  split at h
  · cases h
  next hle =>
    split at h
    · cases h
    next hlong =>
      split at h
      next hcheck =>
        cases h
        have hlen : (body.take (carriedLength l0 l1)).length = carriedLength l0 l1 := by
          rw [List.length_take]
          omega
        obtain ⟨h0, h1⟩ := setWidth_ofNat_carriedLength (l0 := l0) (l1 := l1)
        refine ⟨?_, by rw [hlen]; omega⟩
        have hsplit : body = body.take (carriedLength l0 l1)
            ++ ((body.drop (carriedLength l0 l1)).take 2 ++ body.drop (carriedLength l0 l1 + 2)) := by
          rw [← List.drop_drop, List.take_append_drop, List.take_append_drop]
        rw [frameBytes_eq, hlen, h0, h1, hcheck]
        simp only [List.cons_append, List.append_assoc]
        rw [← hsplit]
      · cases h

/-! ### The check -/

/-- One bit of the check, the bit being taken with the remainder's bit 15 (R190). -/
def checkStep (rem : Word) (b : Bool) : Word := if rem.getLsbD 15 ^^ b then rem <<< 1 ^^^ 0x1021 else rem <<< 1

/-- One shift of a remainder with bits still to come in `w` takes the first of them. -/
theorem shift_eq_checkStep (r w : Word) :
    (if (r ^^^ w).getLsbD 15 then (r ^^^ w) <<< 1 ^^^ 0x1021 else (r ^^^ w) <<< 1)
      = checkStep r (w.getMsbD 0) ^^^ w <<< 1 := by
  have hbit : (r ^^^ w).getLsbD 15 = (r.getLsbD 15 ^^ w.getMsbD 0) := by
    rw [BitVec.getLsbD_xor]
    rfl
  rw [hbit, checkStep, BitVec.shiftLeft_xor_distrib]
  split
  · rw [BitVec.xor_assoc, BitVec.xor_assoc, BitVec.xor_comm (w <<< 1)]
  · rfl

theorem checkShift_xor (n : Nat) (r w : Word) :
    checkShift n (r ^^^ w) = ((List.range n).map w.getMsbD).foldl checkStep r ^^^ w <<< n := by
  induction n generalizing r w with
  | zero => simp [checkShift]
  | succ n ih =>
    have hbits : ∀ k, (w <<< 1).getMsbD k = w.getMsbD (k + 1) := fun k => by
      rw [BitVec.getMsbD_shiftLeft, Nat.add_comm]
    have hmap : (List.range n).map (w <<< 1).getMsbD = (List.range n).map (w.getMsbD ∘ Nat.succ) :=
      List.map_congr_left fun k _ => hbits k
    rw [checkShift, shift_eq_checkStep, ih, List.range_succ_eq_map, List.map_cons, List.map_map, List.foldl_cons, hmap,
      Nat.add_comm n 1, BitVec.shiftLeft_add]

theorem checkByte_eq (r : Word) (b : Byte) : checkByte r b = (byteBits b).foldl checkStep r := by
  have hbits : ∀ k < 8, (b.setWidth 16 <<< 8).getMsbD k = b.getMsbD k := fun k hk => by
    have hplace : 16 - 1 - k - 8 = 8 - 1 - k := by omega
    simp only [BitVec.getMsbD_eq_getLsbD, BitVec.getLsbD_shiftLeft, BitVec.getLsbD_setWidth, hplace]
    have h16 : k < 16 ∧ 16 - 1 - k < 16 ∧ ¬ 16 - 1 - k < 8 ∧ 8 - 1 - k < 16 := by omega
    simp only [hk, h16, decide_true, decide_false, Bool.true_and, Bool.not_false]
  have hout : (b.setWidth 16 <<< 8) <<< 8 = 0#16 := by
    rw [← BitVec.shiftLeft_add, BitVec.shiftLeft_eq_zero (by norm_num)]
  have hmap : (List.range 8).map (b.setWidth 16 <<< 8).getMsbD = byteBits b :=
    List.map_congr_left fun k hk => hbits k (List.mem_range.1 hk)
  rw [checkByte, checkShift_xor, hout, hmap, BitVec.xor_zero]

theorem foldl_checkByte (bytes : List Byte) (r : Word) :
    bytes.foldl checkByte r = (bytes.flatMap byteBits).foldl checkStep r := by
  induction bytes generalizing r with
  | nil => rfl
  | cons b bs ih => rw [List.foldl_cons, List.flatMap_cons, List.foldl_append, checkByte_eq, ih]

/-! ### Words -/

theorem payloadWords_payloadOf (words : List Word) : payloadWords (payloadOf words) = words := by
  induction words with
  | nil => rfl
  | cons w ws ih =>
    have hjoin : (w >>> 8).setWidth 8 ++ w.setWidth 8 = w := by
      have hw := w.isLt
      refine BitVec.eq_of_toNat_eq ?_
      rw [toNat_append_bytes, carriedLength]
      simp only [BitVec.toNat_setWidth, BitVec.toNat_ushiftRight, Nat.shiftRight_eq_div_pow]
      omega
    change ((w >>> 8).setWidth 8 ++ w.setWidth 8) :: payloadWords (payloadOf ws) = _
    rw [hjoin, ih]

theorem blockFlagsWord_eq (f : BlockFlags) :
    blockFlagsWord f = boolWord f.slip + 2 * boolWord f.starved + 4 * boolWord f.probe + 8 * boolWord f.echoAdapt := by
  obtain ⟨slip, starved, probe, echoAdapt⟩ := f
  revert slip starved probe echoAdapt
  decide

theorem crossedWord_eq (erle mse : Bool) : crossedWord erle mse = boolWord erle + 2 * boolWord mse := by
  revert erle mse
  decide

/-! ### Bits of samples (R18, R21) -/

theorem getMsbD_slotSample (hrd : BitVec 1024) (sl : SlotId) {j : Nat} (h : j < 16) :
    (slotSample hrd sl).getMsbD j = hrd.getMsbD (16 * sl.val + j) := by
  have hsl := sl.isLt
  have hplace : 1008 - 16 * sl.val + (16 - 1 - j) = 1024 - 1 - (16 * sl.val + j) := by omega
  simp only [slotSample, BitVec.getMsbD_eq_getLsbD, BitVec.getLsbD_extractLsb', hplace]
  have hin : 16 - 1 - j < 16 ∧ 16 * sl.val + j < 1024 := by omega
  simp only [h, hin, decide_true, Bool.true_and]

theorem htd_slot {h : Highway} {sl : SlotId} {j : Nat} (hj : j < 16) (hcount : h.bitCount = 16 * sl.val + j) :
    h.htd = h.drive[sl.val].map fun x => x.getMsbD j := by
  have hsl := sl.isLt
  have hdiv : h.bitCount / 16 = sl.val := by omega
  have hmod : h.bitCount % 16 = j := by omega
  have hlt : h.bitCount < 1024 := by omega
  rw [Highway.htd, dif_pos hlt, hmod]
  simp only [hdiv]

theorem htd_beyond {h : Highway} (hcount : 1024 ≤ h.bitCount) : h.htd = none := dif_neg (by omega)

/-! ### The statement -/

/-- The notice body has the kind and its frame carries the words (R208). -/
theorem noticeFrame_of {body : NoticeBody} {kind : Byte} {words : List Word} (hk : noticeKind body = kind)
    (hw : noticeWords body = words) (c : Byte) (k : Nat) :
    noticeKind body = kind ∧ noticeFrame ⟨c, k, body⟩ = ⟨kind, c, 0, payloadOf (BitVec.ofNat 16 k :: words)⟩ := by
  refine ⟨hk, ?_⟩
  rw [noticeFrame, hk, hw]
  rfl

/-- Settles O59: reading, layout, the check, the codes, and the bits (log entries 14 and 15). -/
theorem framesRoundTrip : Obligations.FramesRoundTrip := by
  unfold Obligations.FramesRoundTrip
  intro low high num yes item result echo eq record
  refine ⟨fun f rest h => parseFrame_frameBytes h rest, fun bytes h => parseFrame_short (Nat.succ_lt_succ h),
    fun kind channel tag l0 l1 body => ?parsed, fun words => ⟨payloadWords_payloadOf words, rfl⟩, fun f => rfl,
    fun bytes => foldl_checkByte bytes _, fun r => ?reply, fun b => ?block, fun c k => ?notices,
    fun hrd sl j hj => getMsbD_slotSample hrd sl hj, fun h sl j hj hcount => htd_slot hj hcount,
    fun h hcount => htd_beyond hcount,
    fun b => ⟨byteOfBits_byteBits b, byteBits_length b, fun j hj => getElem?_byteBits b hj⟩⟩
  case parsed =>
    intro len check bytes
    have hparse := parseFrame_eq 0xC3 kind channel tag l0 l1 body
    refine ⟨fun hlong => hparse.trans (if_pos hlong), fun hle hshort => hparse.trans ?_,
      fun hle hfull hcheck => hparse.trans ?_, fun f rest h => frameBytes_of_parseFrame h⟩
    · exact (if_neg (not_lt.2 hle)).trans (if_pos hshort)
    · exact (if_neg (not_lt.2 hle)).trans ((if_neg (not_lt.2 hfull)).trans (if_neg fun h => hcheck h.symm))
  case reply =>
    have hresult : ∀ code, resultWord code = result code := fun code => by cases code <;> rfl
    rw [replyFrame, hresult]
  case block =>
    have hecho : ∀ m, echoModeWord m = echo m := fun m => by cases m <;> rfl
    have heq : ∀ m, eqModeWord m = eq m := fun m => by cases m <;> rfl
    rw [eqBlockFrame, eqBlockWords, blockFlagsWord_eq, hecho, heq]
    rfl
  case notices =>
    intro carries
    have hecho : ∀ m, echoModeWord m = echo m := fun m => by cases m <;> rfl
    have hitem : ∀ o, optionWords o = item o := fun o => by cases o <;> rfl
    have hrecord : ∀ r, recordWords r = record r := fun r => by
      have hstatus : surveyStatusWord r.status
          = match r.status with | .found => 0 | .weak => 1 | .slipped => 2 | .cancelled => 3 := by
        cases r.status <;> rfl
      rw [recordWords, hitem, hitem, hitem, hitem, hitem, hstatus]
      rfl
    refine ⟨fun n => ⟨noticeFrame_of rfl rfl c k, noticeFrame_of rfl rfl c k⟩, fun m taken => noticeFrame_of rfl ?_ c k,
      fun d => ⟨noticeFrame_of rfl rfl c k, noticeFrame_of rfl rfl c k⟩,
      fun r => noticeFrame_of (body := .surveyDone r) rfl (hrecord r) c k,
      fun n => ⟨noticeFrame_of rfl rfl c k, noticeFrame_of rfl rfl c k, noticeFrame_of rfl rfl c k⟩,
      fun e m erle mse => noticeFrame_of rfl ?_ c k,
      fun n => ⟨noticeFrame_of rfl rfl c k, noticeFrame_of rfl rfl c k, noticeFrame_of rfl rfl c k⟩,
      fun kind tag => ⟨noticeFrame_of rfl rfl c k, noticeFrame_of rfl rfl c k⟩, noticeFrame_of rfl rfl c k⟩
    · rw [noticeWords, hecho]
      rfl
    · rw [noticeWords, crossedWord_eq, hitem, hitem]
      rfl

end Sys2Proof.Proofs
end

section
/-! PROOF. BAD_FRAME (R192): the second pass over the bytes of a discarded frame is their reception, one after the other. -/

namespace Sys2Proof.Proofs
open Sys2Proof.Machine Sys2Proof.Safety Sys2Proof.Laws

/-! ### Where a frame ends -/

/-- Taking a byte off the end of an incomplete frame leaves it incomplete. -/
theorem parseFrame_init {l : List Byte} {x : Byte} {st : RxState} (h : parseFrame (l ++ [x]) = .incomplete st) :
    ∃ st', parseFrame l = .incomplete st' := by
  obtain hshort | hlong := lt_or_ge l.length 6
  · exact ⟨.header, parseFrame_short hshort⟩
  · obtain ⟨start, kind, channel, tag, l0, l1, body, rfl⟩ := exists_six hlong
    simp only [List.cons_append] at h
    rw [parseFrame_eq] at h
    refine ⟨.body, ?_⟩
    rw [parseFrame_eq]
    split at h
    · cases h
    next hlen =>
      split at h
      next hbody =>
        rw [List.length_append, List.length_singleton] at hbody
        rw [if_neg hlen, if_pos (by omega)]
      next =>
        split at h <;> cases h

/-- Bytes that amount to a frame, good or bad, do so at some byte, before which the frame is incomplete and after which the
bytes are left over. -/
theorem parseFrame_ends {l : List Byte} (h : ∀ st, parseFrame l ≠ .incomplete st) :
    ∃ n, 1 ≤ n ∧ n < l.length ∧ (∃ st, parseFrame (l.take n) = .incomplete st)
      ∧ (parseFrame l = .bad → parseFrame (l.take (n + 1)) = .bad)
      ∧ ∀ f rest, parseFrame l = .complete f rest →
          parseFrame (l.take (n + 1)) = .complete f [] ∧ rest = l.drop (n + 1) := by
  obtain hshort | hlong := lt_or_ge l.length 6
  · exact absurd (parseFrame_short hshort) (h .header)
  · obtain ⟨start, kind, channel, tag, l0, l1, body, rfl⟩ := exists_six hlong
    have hparse := parseFrame_eq start kind channel tag l0 l1 body
    obtain hlen | hlen := lt_or_ge 1024 (carriedLength l0 l1)
    · rw [if_pos hlen] at hparse
      refine ⟨5, by norm_num, by simp only [List.length_cons]; omega, ⟨.header, rfl⟩, fun _ => ?_, fun f rest hc => ?_⟩
      · exact (parseFrame_eq start kind channel tag l0 l1 []).trans (if_pos hlen)
      · rw [hparse] at hc
        cases hc
    · rw [if_neg (not_lt.2 hlen)] at hparse
      obtain hbody | hbody := lt_or_ge body.length (carriedLength l0 l1 + 2)
      · rw [if_pos hbody] at hparse
        exact absurd hparse (h .body)
      · rw [if_neg (not_lt.2 hbody)] at hparse
        have hbefore := parseFrame_eq start kind channel tag l0 l1 (body.take (carriedLength l0 l1 + 1))
        have hat := parseFrame_eq start kind channel tag l0 l1 (body.take (carriedLength l0 l1 + 2))
        rw [if_neg (not_lt.2 hlen), if_pos (by rw [List.length_take]; omega)] at hbefore
        rw [if_neg (not_lt.2 hlen), if_neg (by rw [List.length_take]; omega), List.take_take, List.drop_take,
          List.take_take, List.drop_take, Nat.sub_self, List.take_zero, min_eq_left (Nat.le_add_right _ 2),
          Nat.add_sub_cancel_left, min_self] at hat
        refine ⟨carriedLength l0 l1 + 7, by omega, by simp only [List.length_cons]; omega, ⟨.body, hbefore⟩,
          fun hbad => ?_, fun f rest hc => ?_⟩
        · refine hat.trans ?_
          rw [hparse] at hbad
          split at hbad
          · cases hbad
          next hcheck => exact if_neg hcheck
        · rw [hparse] at hc
          split at hc
          next hcheck =>
            cases hc
            exact ⟨hat.trans (if_pos hcheck), rfl⟩
          · cases hc

/-! ### The receiver between frames -/

/-- The receiver is in HUNT with no byte and no bit held, and NRST is high. -/
structure Hunts (s : State) : Prop where
  high : s.nrstLow = false
  state : s.link.rxState = .hunt
  bytes : s.link.rxBytes = []
  bits : s.link.spiBits = []

theorem hunting_of_hunts {s : State} (h : Hunts s) : s.setReceiver .hunt [] = s := by
  rw [State.setReceiver, State.modLink, ← h.state, ← h.bytes, ← h.bits]

/-- Nothing but the queues, the notices and the contexts differs: the receiver and NRST are as they were. -/
structure SameReceiver (s t : State) : Prop where
  low : t.nrstLow = s.nrstLow
  state : t.link.rxState = s.link.rxState
  bytes : t.link.rxBytes = s.link.rxBytes
  bits : t.link.spiBits = s.link.spiBits

theorem hunts_of_sameReceiver {s t : State} (h : SameReceiver s t) (hs : Hunts s) : Hunts t :=
  ⟨h.low.trans hs.high, h.state.trans hs.state, h.bytes.trans hs.bytes, h.bits.trans hs.bits⟩

theorem sameReceiver_dispatch (s : State) (f : Frame) : SameReceiver s (dispatch s f) := by
  have hraise : ∀ (u : State) (c : ChanId) (o : Option NoticeBody), SameReceiver s u → SameReceiver s (u.raiseOpt c o) :=
    fun u c o h => by cases o <;> exact ⟨h.low, h.state, h.bytes, h.bits⟩
  unfold dispatch
  split
  · unfold arriveTxBlock
    split
    · exact ⟨rfl, rfl, rfl, rfl⟩
    next c _ =>
      unfold takeTxBlock
      dsimp only
      split
      · exact ⟨rfl, rfl, rfl, rfl⟩
      · split
        · exact ⟨rfl, rfl, rfl, rfl⟩
        · split
          · exact ⟨rfl, rfl, rfl, rfl⟩
          · exact hraise _ c _ ⟨rfl, rfl, rfl, rfl⟩
  · split
    · unfold arriveRefBlock
      split
      · exact ⟨rfl, rfl, rfl, rfl⟩
      · unfold takeRefBlock
        dsimp only
        split
        · exact ⟨rfl, rfl, rfl, rfl⟩
        · split
          · exact ⟨rfl, rfl, rfl, rfl⟩
          · unfold actOnRef
            split
            · unfold State.drainIfEmpty
              split <;> exact ⟨rfl, rfl, rfl, rfl⟩
            · exact ⟨rfl, rfl, rfl, rfl⟩
            · exact ⟨rfl, rfl, rfl, rfl⟩
    · unfold arriveRequest
      split <;> exact ⟨rfl, rfl, rfl, rfl⟩

/-! ### ATTN has no part in a frame's arrival -/

/-- The state with ATTN at a level. -/
def attnAt (s : State) (a : Bool) : State := s.modLink fun l => { l with attn := a }

theorem settle_eq_attnAt (s : State) : s.settle = attnAt s (attnDue s.link) := rfl

theorem settle_attnAt (s : State) (a : Bool) : (attnAt s a).settle = s.settle := rfl

@[simp] theorem attnAt_ch (s : State) (a : Bool) (c : ChanId) : (attnAt s a).ch c = s.ch c := rfl

theorem raiseOpt_attnAt (s : State) (a : Bool) (c : ChanId) (o : Option NoticeBody) :
    (attnAt s a).raiseOpt c o = attnAt (s.raiseOpt c o) a := by
  cases o <;> rfl

theorem ite_attnAt {p : Prop} [Decidable p] {a : Bool} {u v u' v' : State} (hu : u = attnAt u' a) (hv : v = attnAt v' a) :
    (if p then u else v) = attnAt (if p then u' else v') a := by
  split
  · exact hu
  · exact hv

theorem takeTxBlock_attnAt (s : State) (a : Bool) (c : ChanId) (payload : List Byte) :
    takeTxBlock (attnAt s a) c payload = attnAt (takeTxBlock s c payload) a :=
  ite_attnAt rfl (ite_attnAt rfl (ite_attnAt rfl (raiseOpt_attnAt (s.setCh c _) a c _)))

theorem actOnRef_attnAt (s : State) (a : Bool) (c : ChanId) (seq : Word) (erase : Bool) (refs : List Sample) :
    actOnRef (attnAt s a) c seq erase refs = attnAt (actOnRef s c seq erase refs) a := by
  have hdrain : ∀ u : State, (attnAt u a).drainIfEmpty c = attnAt (u.drainIfEmpty c) a := fun _ => ite_attnAt rfl rfl
  unfold actOnRef
  rw [attnAt_ch]
  cases classifyRef (s.ch c) seq with
  | isMatch => exact hdrain (s.setCh c _)
  | isLate | isUnknown => rfl

theorem takeRefBlock_attnAt (s : State) (a : Bool) (c : ChanId) (payload : List Byte) :
    takeRefBlock (attnAt s a) c payload = attnAt (takeRefBlock s c payload) a :=
  ite_attnAt rfl (ite_attnAt rfl (actOnRef_attnAt s a c _ _ _))

/-- A frame that arrives is dispatched the same whatever ATTN's level. -/
theorem dispatch_attnAt (s : State) (a : Bool) (f : Frame) : dispatch (attnAt s a) f = attnAt (dispatch s f) a := by
  refine ite_attnAt ?tx (ite_attnAt ?ref (ite_attnAt rfl rfl))
  case tx =>
    unfold arriveTxBlock
    cases chanOf f.channel with
    | none => rfl
    | some c => exact takeTxBlock_attnAt s a c _
  case ref =>
    unfold arriveRefBlock
    cases chanOf f.channel with
    | none => rfl
    | some c => exact takeRefBlock_attnAt s a c _

theorem settle_dispatch_settle (s : State) (f : Frame) : (dispatch s.settle f).settle = (dispatch s f).settle := by
  rw [settle_eq_attnAt s, dispatch_attnAt, settle_attnAt]

theorem attnFollows_settle (s : State) : AttnFollows s.settle := rfl

theorem hunts_settle {s : State} (h : Hunts s) : Hunts s.settle := ⟨h.high, h.state, h.bytes, h.bits⟩

theorem hunts_dispatch {s : State} (h : Hunts s) (f : Frame) : Hunts (dispatch s f) :=
  hunts_of_sameReceiver (sameReceiver_dispatch s f) h

theorem hunts_countBadFrame {s : State} (h : Hunts s) : Hunts s.countBadFrame := ⟨h.high, h.state, h.bytes, h.bits⟩

/-! ### Receiving byte by byte -/

theorem receiveAll_cons_next {b : Byte} {bs : List Byte} {s t : State} (h : exec (byteRow s b) s = .next t) :
    receiveAll (b :: bs) s = receiveAll bs t := by
  simp only [receiveAll, h]

theorem receiveAll_append {p : List Byte} {s t : State} (h : receiveAll p s = .next t) (q : List Byte) :
    receiveAll (p ++ q) s = receiveAll q t := by
  induction p generalizing s with
  | nil => cases h; rfl
  | cons b bs ih =>
    simp only [receiveAll] at h
    split at h
    next u hu =>
      rw [List.cons_append, receiveAll_cons_next hu]
      exact ih h
    · cases h
    · cases h

/-- The receiver holds these bytes of an unfinished frame and no bit (R191). -/
def heldWith (s : State) (st : RxState) (bytes : List Byte) : State :=
  { s with link := { s.link with rxState := st, rxBytes := bytes } }

theorem setReceiver_of_hunts {s : State} (h : Hunts s) (st : RxState) (bytes : List Byte) :
    s.setReceiver st bytes = heldWith s st bytes := by
  rw [State.setReceiver, State.modLink, ← h.bits]
  rfl

theorem setReceiver_heldWith {s : State} (h : Hunts s) (st st' : RxState) (bytes bytes' : List Byte) :
    (heldWith s st bytes).setReceiver st' bytes' = heldWith s st' bytes' := by
  rw [State.setReceiver, State.modLink, heldWith, heldWith, ← h.bits]

/-- A byte of eight bits that continues the reception is taken (R191). -/
theorem exec_inboundByte_gathers {s : State} (hhigh : s.nrstLow = false) (ha : AttnFollows s) {b : Byte} {st : RxState}
    {bytes : List Byte} (hbits : s.link.spiBits = []) (h : byteEvent s.link b = .gather st bytes) :
    exec (.inboundByte (byteBits b)) s = .next (s.setReceiver st bytes) := by
  have hlen : (s.link.spiBits ++ byteBits b).length = 8 := by rw [hbits, List.nil_append, byteBits_length]
  rw [exec_inboundByte hhigh, rxEvent_byte hlen, hbits, List.nil_append, byteOfBits_byteBits, h]
  exact done_setReceiver ha _ _

theorem byteRow_hunts {s : State} (h : Hunts s) (b : Byte) : byteRow s b = .inboundByte (byteBits b) := if_pos h.bytes

/-- In HUNT a byte that is no start byte is filler (R191). -/
theorem receive_filler {s : State} (h : Hunts s) (ha : AttnFollows s) {b : Byte} (hb : b ≠ 0xC3) :
    exec (byteRow s b) s = .next s := by
  have hevent : byteEvent s.link b = .gather .hunt [] := (byteEvent_hunt h.bytes b).trans (if_neg hb)
  rw [byteRow_hunts h, exec_inboundByte_gathers h.high ha h.bits hevent, hunting_of_hunts h]

theorem receive_start {s : State} (h : Hunts s) (ha : AttnFollows s) :
    exec (byteRow s 0xC3) s = .next (heldWith s .header [0xC3]) := by
  have hevent : byteEvent s.link 0xC3 = .gather .header [0xC3] := (byteEvent_hunt h.bytes _).trans (if_pos rfl)
  rw [byteRow_hunts h, exec_inboundByte_gathers h.high ha h.bits hevent, setReceiver_of_hunts h]

theorem receive_content {s : State} (h : Hunts s) (ha : AttnFollows s) {st st' : RxState} {l : List Byte} {b : Byte}
    (hl : l ≠ []) (hparse : parseFrame (l ++ [b]) = .incomplete st') :
    exec (byteRow (heldWith s st l) b) (heldWith s st l) = .next (heldWith s st' (l ++ [b])) := by
  have hrow : byteRow (heldWith s st l) b = .inboundByte (byteBits b) := by
    simp only [byteRow, heldWith, if_neg hl, hparse]
  rw [hrow, exec_inboundByte_gathers (s := heldWith s st l) h.high ha h.bits (byteEvent_held hl hparse),
    setReceiver_heldWith h]
  rfl

theorem receiveAll_filler {s : State} (h : Hunts s) (ha : AttnFollows s) {filler : List Byte}
    (hf : (0xC3 : Byte) ∉ filler) : receiveAll filler s = .next s := by
  induction filler with
  | nil => rfl
  | cons b bs ih =>
    rw [List.mem_cons, not_or] at hf
    rw [receiveAll_cons_next (receive_filler h ha fun hb => hf.1 hb.symm)]
    exact ih hf.2

/-- The bytes of an unfinished frame, from its start byte on, are held (R191). -/
theorem receiveAll_held {s : State} (h : Hunts s) (ha : AttnFollows s) (p : List Byte) :
    ∀ st, parseFrame (0xC3 :: p) = .incomplete st → receiveAll (0xC3 :: p) s = .next (heldWith s st (0xC3 :: p)) := by
  induction p using List.reverseRecOn with
  | nil =>
    intro st hst
    cases hst
    exact receiveAll_cons_next (receive_start h ha)
  | append_singleton p b ih =>
    intro st hst
    obtain ⟨st', hst'⟩ := parseFrame_init (l := 0xC3 :: p) hst
    have hbefore := receiveAll_append (ih st' hst') [b]
    have hlast := receive_content h ha (st := st') (List.cons_ne_nil _ _) (l := 0xC3 :: p) hst
    exact hbefore.trans (receiveAll_cons_next hlast)

/-! ### The byte that ends a frame -/

/-- The row that takes the last byte of a whole frame (R193). -/
def frameRow (f : Frame) (last : Byte) : Instr :=
  if f.kind = 0x20 then .txBlock (byteBits last) else if f.kind = 0x21 then .refBlock (byteBits last)
  else .requestArrival (byteBits last)

theorem completes_heldWith {s : State} (h : Hunts s) {st : RxState} {l : List Byte} {last : Byte} {f : Frame}
    (hl : l ≠ []) (hparse : parseFrame (l ++ [last]) = .complete f []) :
    Completes (heldWith s st l) (byteBits last) f := by
  have hbits : (heldWith s st l).link.spiBits ++ byteBits last = byteBits last := by
    rw [show (heldWith s st l).link.spiBits = [] from h.bits, List.nil_append]
  refine ⟨h.high, ?_, hl, ?_⟩
  · rw [← List.length_append, hbits, byteBits_length]
  · rw [hbits, byteOfBits_byteBits]
    exact hparse

theorem hunting_heldWith {s : State} (h : Hunts s) (st : RxState) (l : List Byte) : hunting (heldWith s st l) = s := by
  rw [← setReceiver_hunt_nil, setReceiver_heldWith h, ← setReceiver_of_hunts h, hunting_of_hunts h]

/-- The last byte of a whole frame dispatches it (R193). -/
theorem exec_frameRow {s : State} (h : Hunts s) {st : RxState} {l : List Byte} {last : Byte} {f : Frame} (hl : l ≠ [])
    (hparse : parseFrame (l ++ [last]) = .complete f []) :
    exec (frameRow f last) (heldWith s st l) = .next (dispatch s f).settle := by
  have hc := completes_heldWith h (st := st) hl hparse
  unfold frameRow dispatch
  by_cases htx : f.kind = 0x20
  · rw [if_pos htx, exec_txBlock hc htx, hunting_heldWith h, if_pos (show f.kind = txBlockKind from htx), State.done_eq]
  · rw [if_neg htx, if_neg (show ¬ f.kind = txBlockKind from htx)]
    by_cases href : f.kind = 0x21
    · rw [if_pos href, exec_refBlock hc href, hunting_heldWith h, if_pos (show f.kind = refBlockKind from href),
        State.done_eq]
    · rw [if_neg href, if_neg (show ¬ f.kind = refBlockKind from href), exec_requestArrival hc htx href,
        hunting_heldWith h]

theorem byteRow_complete {s : State} {st : RxState} {l : List Byte} {last : Byte} {f : Frame} (hl : l ≠ [])
    (hparse : parseFrame (l ++ [last]) = .complete f []) : byteRow (heldWith s st l) last = frameRow f last := by
  simp only [byteRow, heldWith, if_neg hl, hparse, frameRow]

theorem byteRow_bad {s : State} {st : RxState} {l : List Byte} {last : Byte} (hl : l ≠ [])
    (hparse : parseFrame (l ++ [last]) = .bad) : byteRow (heldWith s st l) last = .badFrame (byteBits last) := by
  simp only [byteRow, heldWith, if_neg hl, hparse]

/-- The byte at which a frame is discarded: the discard counts, and the second pass runs (R192; log entry 8). -/
theorem exec_badFrame {s : State} {sdi : List Bool} {start : Byte} {held : List Byte} (hhigh : s.nrstLow = false)
    (hbits : (s.link.spiBits ++ sdi).length = 8) (hheld : s.link.rxBytes = start :: held)
    (hparse : parseFrame (start :: (held ++ [byteOfBits (s.link.spiBits ++ sdi)])) = .bad) :
    exec (.badFrame sdi) s = .next (rescan (held ++ [byteOfBits (s.link.spiBits ++ sdi)]).length
      (held ++ [byteOfBits (s.link.spiBits ++ sdi)]) (hunting s).countBadFrame).settle := by
  have hevent : rxEvent s.link sdi = .discard (held ++ [byteOfBits (s.link.spiBits ++ sdi)]) := by
    rw [rxEvent_byte hbits]
    simp only [byteEvent, hheld, hparse]
  change execBadFrame sdi s = _
  simp only [execBadFrame, unlessHeld_high _ _ hhigh, hevent, setReceiver_hunt_nil, State.done_eq]

theorem exec_badFrame_held {s : State} (h : Hunts s) {st : RxState} {l : List Byte} {last : Byte}
    (hparse : parseFrame (0xC3 :: (l ++ [last])) = .bad) :
    exec (.badFrame (byteBits last)) (heldWith s st (0xC3 :: l))
      = .next (rescan (l ++ [last]).length (l ++ [last]) s.countBadFrame).settle := by
  have hbits : (heldWith s st (0xC3 :: l)).link.spiBits ++ byteBits last = byteBits last := by
    rw [show (heldWith s st (0xC3 :: l)).link.spiBits = [] from h.bits, List.nil_append]
  have hexec := exec_badFrame (s := heldWith s st (0xC3 :: l)) (sdi := byteBits last) (start := 0xC3) (held := l) h.high
    (by rw [hbits, byteBits_length]) rfl (by rw [hbits, byteOfBits_byteBits]; exact hparse)
  rw [hexec, hbits, byteOfBits_byteBits, hunting_heldWith h]

/-! ### The second pass is a reception -/

/-- A start byte among the bytes left: what is received up to the byte that ends its frame. -/
theorem receiveAll_started {s : State} (h : Hunts s) (ha : AttnFollows s) {bs : List Byte}
    (hends : ∀ st, parseFrame (0xC3 :: bs) ≠ .incomplete st) :
    ∃ (st : RxState) (body rest : List Byte) (last : Byte), bs = body ++ last :: rest
      ∧ receiveAll (0xC3 :: bs) s = receiveAll (last :: rest) (heldWith s st (0xC3 :: body))
      ∧ (parseFrame (0xC3 :: bs) = .bad → parseFrame (0xC3 :: (body ++ [last])) = .bad)
      ∧ ∀ f r, parseFrame (0xC3 :: bs) = .complete f r → parseFrame (0xC3 :: (body ++ [last])) = .complete f [] ∧ r = rest := by
  obtain ⟨n, h1, hn, ⟨st, hst⟩, hbad, hcomplete⟩ := parseFrame_ends hends
  obtain ⟨m, rfl⟩ := Nat.exists_eq_add_of_le' h1
  rw [List.length_cons] at hn
  have hm : m < bs.length := by omega
  have hsplit : bs = bs.take m ++ bs[m] :: bs.drop (m + 1) := by
    rw [List.getElem_cons_drop, List.take_append_drop]
  have htake : bs.take (m + 1) = bs.take m ++ [bs[m]] := List.take_succ_eq_append_getElem hm
  rw [List.take_succ_cons] at hst hbad hcomplete
  rw [htake] at hbad hcomplete
  refine ⟨st, bs.take m, bs.drop (m + 1), bs[m], hsplit, ?_, hbad, hcomplete⟩
  have hheld := receiveAll_append (receiveAll_held h ha (bs.take m) st hst) (bs[m] :: bs.drop (m + 1))
  rwa [List.cons_append, ← hsplit] at hheld

/-- The second pass over bytes is their reception, one after the other (R192). -/
theorem receiveAll_rescan (n : Nat) : ∀ (bytes : List Byte) (s : State), Hunts s → bytes.length ≤ n →
    receiveAll bytes s.settle = .next (rescan n bytes s).settle := by
  induction n using Nat.strong_induction_on with
  | _ n ih =>
    intro bytes s h hlen
    cases bytes with
    | nil =>
      have hnone : rescan n [] s = s := by
        cases n <;> exact hunting_of_hunts h
      rw [hnone]
      rfl
    | cons b bs =>
      obtain ⟨k, rfl⟩ : ∃ k, n = k + 1 := Nat.exists_eq_succ_of_ne_zero (by rintro rfl; simp at hlen)
      rw [List.length_cons] at hlen
      have hbs : bs.length ≤ k := by omega
      have ha := attnFollows_settle s
      have hs := hunts_settle h
      by_cases hb : b = 0xC3
      case neg =>
        rw [rescan, if_pos (show b ≠ startByte from hb), receiveAll_cons_next (receive_filler hs ha hb)]
        exact ih k (by omega) bs s h hbs
      case pos =>
        subst hb
        rw [rescan, if_neg (not_not.2 (show (0xC3 : Byte) = startByte from rfl))]
        cases hparse : parseFrame (0xC3 :: bs) with
        | incomplete st =>
          rw [receiveAll_held hs ha bs st hparse]
          dsimp only
          rw [setReceiver_of_hunts h]
          rfl
        | bad =>
          obtain ⟨st, body, rest, last, hsplit, hreceived, hbad, -⟩ := receiveAll_started hs ha (by rw [hparse]; nofun)
          have hlt : (body ++ [last]).length ≤ k := by
            rw [hsplit] at hbs
            simp only [List.length_append, List.length_cons, List.length_nil] at hbs ⊢
            omega
          have hbadLast := hbad hparse
          have hstep : exec (byteRow (heldWith s.settle st (0xC3 :: body)) last) (heldWith s.settle st (0xC3 :: body))
              = .next (rescan (body ++ [last]).length (body ++ [last]) s.settle.countBadFrame).settle := by
            rw [byteRow_bad (List.cons_ne_nil _ _) hbadLast]
            exact exec_badFrame_held hs hbadLast
          have hpass : receiveAll (body ++ [last]) s.countBadFrame.settle
              = .next (rescan (body ++ [last]).length (body ++ [last]) s.settle.countBadFrame).settle :=
            ih _ (by omega) (body ++ [last]) s.settle.countBadFrame (hunts_countBadFrame hs) le_rfl
          have hall : receiveAll bs s.countBadFrame.settle
              = receiveAll rest (rescan (body ++ [last]).length (body ++ [last]) s.settle.countBadFrame).settle := by
            rw [hsplit, List.append_cons]
            exact receiveAll_append hpass rest
          rw [hreceived, receiveAll_cons_next hstep, ← hall]
          exact ih k (by omega) bs s.countBadFrame (hunts_countBadFrame h) hbs
        | complete f r =>
          obtain ⟨st, body, rest, last, hsplit, hreceived, -, hcomplete⟩ :=
            receiveAll_started hs ha (by rw [hparse]; nofun)
          obtain ⟨hlast, rfl⟩ := hcomplete f r hparse
          have hstep : exec (byteRow (heldWith s.settle st (0xC3 :: body)) last) (heldWith s.settle st (0xC3 :: body))
              = .next (dispatch s f).settle := by
            rw [byteRow_complete (List.cons_ne_nil _ _) hlast, exec_frameRow hs (List.cons_ne_nil _ _) hlast,
              settle_dispatch_settle]
          have hrest : r.length ≤ k := by
            rw [hsplit] at hbs
            simp only [List.length_append, List.length_cons] at hbs
            omega
          rw [hreceived, receiveAll_cons_next hstep]
          exact ih k (by omega) r (dispatch s f) (hunts_dispatch h f) hrest

/-- Before its last byte a whole frame is incomplete. -/
theorem parseFrame_beforeLast {l : List Byte} {last : Byte} {f : Frame} (h : parseFrame (l ++ [last]) = .complete f []) :
    ∃ st, parseFrame l = .incomplete st := by
  obtain ⟨n, -, hn, hst, -, hcomplete⟩ := parseFrame_ends (l := l ++ [last]) (by rw [h]; nofun)
  have hend : (l ++ [last]).length ≤ n + 1 := List.drop_eq_nil_iff.1 (hcomplete f [] h).2.symm
  rw [List.length_append, List.length_singleton] at hn hend
  obtain rfl : n = l.length := by omega
  rwa [List.take_left] at hst

theorem noticed_countBadFrame (s : State) : (hunting s).countBadFrame.settle = noticed
    { hunting s with device := { s.device with linkBadFrames := s.device.linkBadFrames + 1 } } 0xFF (.link .badFrame 0 0) :=
  settle_raise _ _ _

/-- Settles O22: the second pass as a reception, and the reception by the first start byte's frame (log entry 8). -/
theorem badFrameIsDiscarded : Obligations.BadFrameIsDiscarded := by
  intro s sdi start held hhigh height hheld b hparse counted holding found
  have hcounted : (hunting s).countBadFrame.settle = counted := noticed_countBadFrame s
  have hhunts : Hunts (hunting s).countBadFrame := ⟨hhigh, rfl, rfl, rfl⟩
  have hs : Hunts counted := hcounted ▸ hunts_settle hhunts
  have ha : AttnFollows counted := hcounted ▸ attnFollows_settle _
  have hexec := exec_badFrame hhigh (by rw [List.length_append, height]) hheld hparse
  have hall : exec (.badFrame sdi) s = receiveAll (held ++ [b]) counted := by
    rw [hexec, ← hcounted, receiveAll_rescan _ _ _ hhunts le_rfl]
  refine ⟨⟨_, hexec⟩, hall, fun hno => hall.trans (receiveAll_filler hs ha hno), fun filler hfiller => ?_⟩
  have hskip : ∀ bytes : List Byte, held ++ [b] = filler ++ bytes →
      exec (.badFrame sdi) s = receiveAll bytes counted := fun bytes hsplit => by
    rw [hall, hsplit]
    exact receiveAll_append (receiveAll_filler hs ha hfiller) bytes
  refine ⟨fun tail st hsplit hst => ?incomplete, fun body last hsplit hbad => ?bad,
    fun body rest last f hsplit hcomplete => ?complete⟩
  case incomplete => rw [hskip _ hsplit, receiveAll_held hs ha tail st hst, heldWith]
  case bad =>
    have hagain : (rescan ((body ++ [last]).length + 1) (0xC3 :: (body ++ [last])) (hunting s).countBadFrame)
        = rescan (body ++ [last]).length (body ++ [last]) (hunting s).countBadFrame.countBadFrame := by
      rw [rescan, if_neg (not_not.2 (show (0xC3 : Byte) = startByte from rfl)), hbad]
    have hheldBad : exec (.badFrame (byteBits last)) (holding (0xC3 :: body))
        = .next (rescan (body ++ [last]).length (body ++ [last]) counted.countBadFrame).settle :=
      exec_badFrame_held (st := .hunt) hs hbad
    rw [hskip _ hsplit, ← hcounted, receiveAll_rescan _ _ _ hhunts le_rfl, List.length_cons, hagain, hheldBad,
      ← receiveAll_rescan _ _ _ (hunts_countBadFrame hhunts) le_rfl,
      ← receiveAll_rescan _ _ _ (hunts_countBadFrame hs) le_rfl, ← hcounted]
    rfl
  case complete =>
    obtain ⟨st, hst⟩ := parseFrame_beforeLast (l := 0xC3 :: body) hcomplete
    have hfound : exec (found f last) (holding (0xC3 :: body)) = .next (dispatch counted f).settle :=
      exec_frameRow (st := .hunt) hs (List.cons_ne_nil _ _) hcomplete
    have hlast : exec (byteRow (heldWith counted st (0xC3 :: body)) last) (heldWith counted st (0xC3 :: body))
        = .next (dispatch counted f).settle := by
      rw [byteRow_complete (List.cons_ne_nil _ _) hcomplete, exec_frameRow hs (List.cons_ne_nil _ _) hcomplete]
    have hrest : exec (.badFrame sdi) s = receiveAll rest (dispatch counted f).settle := by
      rw [hskip _ hsplit, ← List.cons_append, receiveAll_append (receiveAll_held hs ha body st hst),
        receiveAll_cons_next hlast]
    refine ⟨fun hno => ?_, _, hfound, hrest⟩
    rw [hrest, hfound]
    exact receiveAll_filler (hunts_settle (hunts_dispatch hs f)) (attnFollows_settle _) hno

end Sys2Proof.Proofs
end

section
/-! PROOF. The arithmetic of section 1: saturation and the filters (R3 to R9), the power estimators and the attributes (R10, R11,
R13), the survey's products and figures (R14, R15), and the probe (R17). -/

namespace Sys2Proof.Proofs
open Sys2Proof.Machine Sys2Proof.Safety Sys2Proof.Laws

/-! ### Filters -/

theorem toInt_saturate (v : Int) : (saturate v).toInt = max (-32768) (min 32767 v) := by
  rw [saturate, BitVec.toInt_ofInt_eq_self (by norm_num)]
  · norm_num
  · norm_num

theorem dotFrom_eq_sum (x : Nat → Sample) (k : Nat) (taps : List Sample) :
    dotFrom x k taps = ∑ j ∈ Finset.range taps.length, (taps.getD j 0).toInt * (x (k + j)).toInt := by
  induction taps generalizing k with
  | nil => rfl
  | cons tap taps ih =>
    have hshift : ∀ j, x (k + 1 + j) = x (k + (j + 1)) := fun j => congrArg x (by omega)
    rw [dotFrom, ih, List.length_cons, Finset.sum_range_succ', add_comm]
    simp only [List.getD_cons_succ, List.getD_cons_zero, hshift, Nat.add_zero]

theorem adaptFrom_getElem? (e : Sample) (q : Nat) (x : Nat → Sample) (d : Nat) {taps : List Sample} {k : Nat} {tap : Sample}
    (h : taps[k]? = some tap) :
    (adaptFrom e q x d taps)[k]? = some (saturate (tap.toInt + (e.toInt * (x (d + k)).toInt + 2 ^ q) / 2 ^ (q + 1))) := by
  induction taps generalizing d k with
  | nil => cases h
  | cons first taps ih =>
    cases k with
    | zero => cases h; rfl
    | succ k =>
      have hshift : d + 1 + k = d + (k + 1) := by omega
      rw [adaptFrom, List.getElem?_cons_succ, ih (d + 1) h, hshift]

/-! ### The window products -/

theorem length_addProducts (x : Nat → Sample) (r : Sample) (lo : Nat) (sums : List Int) :
    (addProducts x r lo sums).length = sums.length := by
  induction sums generalizing lo with
  | nil => rfl
  | cons sum sums ih => rw [addProducts, List.length_cons, ih, List.length_cons]

theorem addProducts_getElem? (x : Nat → Sample) (r : Sample) (lo : Nat) {sums : List Int} {k : Nat} {sum : Int}
    (h : sums[k]? = some sum) :
    (addProducts x r lo sums)[k]? = some (sum + (x (lo + 4 * k)).toInt * r.toInt) := by
  induction sums generalizing lo k with
  | nil => cases h
  | cons first sums ih =>
    cases k with
    | zero => cases h; rfl
    | succ k =>
      have hshift : lo + 4 + 4 * k = lo + 4 * (k + 1) := by omega
      rw [addProducts, List.getElem?_cons_succ, ih (lo + 4) h, hshift]

/-! ### Power estimators and levels -/

/-- A step of a power estimator towards the square of a sample, its floor and its bounds (R10). -/
theorem powerStep_facts {p : Nat} {v : Sample} {sq : Int} (hp : p ≤ 32767)
    (hsq : sq = min (v.toInt * v.toInt / 32768) 32767) :
    (powerStep p v : Int) = p + (sq - p) / 128 ∧ powerStep p v ≤ 32767 ∧ (sq < p → powerStep p v < p)
      ∧ ((p : Int) ≤ sq → p ≤ powerStep p v ∧ (powerStep p v : Int) ≤ sq) := by
  have hnonneg : 0 ≤ v.toInt * v.toInt := mul_self_nonneg _
  have h0 : 0 ≤ sq := by omega
  have h1 : sq ≤ 32767 := by omega
  have hstep : (powerStep p v : Int) = p + (sq - p) / 128 := by
    rw [powerStep, ← hsq, Int.toNat_of_nonneg (by omega)]
  exact ⟨hstep, by omega, by omega, by omega⟩

theorem msb_bounds {n : Nat} (h : 1 ≤ n) : 2 ^ msb n ≤ n ∧ n < 2 ^ (msb n + 1) :=
  ⟨Nat.log2_self_le (by omega), Nat.lt_log2_self⟩

/-- The clamped difference of two levels, in whole numbers (R11, R15). -/
theorem clamped_cast (a b : Nat) : ((min 45 (3 * (a - b)) : Nat) : Int) = max 0 (min 45 (3 * ((a : Int) - b))) := by
  omega

theorem erleValue_iff (pRx pRes n : Nat) : erleValue pRx pRes = some n
    ↔ 16 ≤ pRx ∧ (n : Int) = max 0 (min 45 (3 * ((msb (pRx + 1) : Int) - msb (pRes + 1)))) := by
  rw [← clamped_cast, Int.natCast_inj, erleValue]
  split
  next h => rw [Option.some_inj, eq_comm]; exact ⟨fun hn => ⟨h, hn⟩, fun hn => hn.2⟩
  next h => exact ⟨nofun, fun hn => absurd hn.1 h⟩

theorem mseValue_iff (pErr count n : Nat) : mseValue pErr count = some n
    ↔ 64 ≤ count ∧ (n : Int) = max 0 (min 45 (3 * (15 - (msb (pErr + 1) : Int)))) := by
  have hcast := clamped_cast 15 (msb (pErr + 1))
  rw [Nat.cast_ofNat] at hcast
  rw [← hcast, Int.natCast_inj, mseValue]
  split
  next h => rw [Option.some_inj, eq_comm]; exact ⟨fun hn => ⟨h, hn⟩, fun hn => hn.2⟩
  next h => exact ⟨nofun, fun hn => absurd hn.1 h⟩

/-! ### The survey figures -/

/-- The peak of a survey's sums: the first of the largest magnitudes (R15). -/
theorem exists_peak {sums : List Int} (h : sums ≠ []) (lo : Nat) :
    ∃ peak, peak < sums.length ∧ peakFrom lo sums (lo, 0) = (lo + 4 * peak, (sums.getD peak 0).natAbs)
      ∧ (∀ k, k < sums.length → (sums.getD k 0).natAbs ≤ (sums.getD peak 0).natAbs)
      ∧ ∀ k, k < peak → (sums.getD k 0).natAbs < (sums.getD peak 0).natAbs := by
  obtain ⟨hbest, hall⟩ | ⟨j, hj, hpeak, -, hall, hfirst⟩ := peakFrom_spec sums lo (lo, 0)
  · have hpos : 0 < sums.length := List.length_pos_iff.2 h
    have hzero : (sums.getD 0 0).natAbs = 0 := Nat.le_zero.1 (hall 0 hpos)
    exact ⟨0, hpos, by rw [hbest, hzero, Nat.mul_zero, Nat.add_zero], fun k hk => (hall k hk).trans (Nat.zero_le _),
      fun k hk => absurd hk (Nat.not_lt_zero k)⟩
  · exact ⟨j, hj, hpeak, hall, hfirst⟩

/-! ### The probe -/

theorem probeStep_getLsbD (st : BitVec 15) {k : Nat} (h : k < 15) :
    (probeStep st).2.getLsbD k = if k = 0 then st.getLsbD 14 ^^ st.getLsbD 13 else st.getLsbD (k - 1) := by
  rw [probeStep, BitVec.getLsbD_or, BitVec.getLsbD_shiftLeft, BitVec.getLsbD_setWidth, BitVec.getLsbD_ofBool]
  cases k with
  | zero => simp
  | succ k => simp [h]

/-- The probe's step loses no state: thirteen bits and the sum of the last two tell all fifteen. -/
theorem probeStep_injective {a b : BitVec 15} (h : (probeStep a).2 = (probeStep b).2) : a = b := by
  have hlow : ∀ k, k < 14 → a.getLsbD k = b.getLsbD k := fun k hk => by
    have hbit := congrArg (fun v => v.getLsbD (k + 1)) h
    rwa [probeStep_getLsbD a (by omega), probeStep_getLsbD b (by omega), if_neg (by omega), if_neg (by omega)] at hbit
  have hsum : (a.getLsbD 14 ^^ a.getLsbD 13) = (b.getLsbD 14 ^^ b.getLsbD 13) := by
    have hbit := congrArg (fun v => v.getLsbD 0) h
    rwa [probeStep_getLsbD a (by omega), probeStep_getLsbD b (by omega), if_pos rfl, if_pos rfl] at hbit
  rw [hlow 13 (by omega)] at hsum
  have htop : a.getLsbD 14 = b.getLsbD 14 := Bool.xor_left_inj.1 hsum
  refine BitVec.eq_of_getLsbD_eq fun k hk => ?_
  obtain hk | rfl : k < 14 ∨ k = 14 := by omega
  · exact hlow k hk
  · exact htop

theorem probeStep_ne_zero {st : BitVec 15} (h : st ≠ 0) : (probeStep st).2 ≠ 0 := fun hzero =>
  h (probeStep_injective (hzero.trans (show (0 : BitVec 15) = (probeStep 0).2 from by decide)))

/-! ### The statement -/

/-- Settles O60: each piece of arithmetic by the lemma that says it. -/
theorem estimatorsAndProbe : Obligations.EstimatorsAndProbe := by
  refine ⟨toInt_saturate, fun near far delay x => ?estimate,
    fun e q x d taps => ⟨adaptFrom_length e q x d taps, fun k tap h => adaptFrom_getElem? e q x d h⟩,
    fun taps u => ?equalizer, fun q ch d y p ds ys ps => rfl,
    fun x r lo sums => ⟨length_addProducts x r lo sums, fun k sum h => addProducts_getElem? x r lo h⟩,
    fun p v hp => powerStep_facts hp rfl, fun n h => msb_bounds h, fun lo sums h => ?figures,
    fun st => ⟨rfl, fun k hk => probeStep_getLsbD st hk⟩, fun st h => probeStep_ne_zero h,
    fun a b h => probeStep_injective h, fun b => by cases b <;> decide, fun pRx pRes n h => ?erle, erleValue_iff,
    mseValue_iff, fun pErr count n h => ?mse⟩
  case estimate =>
    rw [echoEstimate, dotFrom_eq_sum, dotFrom_eq_sum, roundHalfUp]
    simp only [Nat.zero_add]
  case equalizer =>
    rw [equalize, dotFrom_eq_sum, roundHalfUp]
    simp only [Nat.zero_add]
  case figures =>
    obtain ⟨peak, hpeak, heq, hall, hfirst⟩ := exists_peak h lo
    obtain ⟨-, hfar, hsecond⟩ := secondFrom_spec (lo + 4 * peak) sums lo 0
    intro f size
    have hf : f = surveyFigures lo sums := rfl
    rw [surveyFigures, heq] at hf
    refine ⟨peak, secondFrom (lo + 4 * peak) lo sums 0, hpeak, by rw [hf], hall, hfirst, by rw [hf]; rfl,
      fun k hk hfark => hfar k hk (by omega), ?_, by rw [hf]; rfl, ?_⟩
    · obtain hzero | ⟨k, hk, hfark, hk'⟩ := hsecond
      · exact .inl hzero
      · exact .inr ⟨k, hk, by omega, hk'⟩
    · rw [hf]
      exact clamped_cast _ _
  case erle =>
    obtain ⟨h16, hn⟩ := (erleValue_iff pRx pRes n).1 h
    exact ⟨h16, by omega⟩
  case mse =>
    obtain ⟨h64, hn⟩ := (mseValue_iff pErr count n).1 h
    exact ⟨h64, by omega⟩

end Sys2Proof.Proofs
end

section
/-! PROOF. HUNT_SYNC (R27, R28): the hunt measures the spacing, and the sync that completes acquisition. -/

namespace Sys2Proof.Proofs
open Sys2Proof.Machine Sys2Proof.Safety Sys2Proof.Laws

/-! ### The frame sync input -/

theorem syncAtLast_of_syncComes {s : State} {hfs : List Bool} (h : SyncComes s hfs) :
    syncAtLast s.highway.hfs hfs = true := (syncAtLast_iff _ _).2 h

/-- The part at a sync: the frame sync input is high (R18). -/
def atSync (s : State) : State := { s with highway := { s.highway with hfs := true } }

/-- After a sync the level held is high. -/
theorem foundHfs_sync {s : State} {hfs : List Bool} (h : SyncComes s hfs) : s.foundHfs hfs = atSync s := by
  rw [atSync, State.foundHfs, getLastD_of_syncAtLast (syncAtLast_of_syncComes h)]

theorem exec_huntSync {s : State} {hfs : List Bool} (hhigh : s.nrstLow = false) (hst : s.highway.state ≠ .synced)
    (hsync : SyncComes s hfs) :
    exec (.huntSync hfs) s = .next ((atSync s).huntSync (min (s.highway.bitCount + hfs.length) 3072)).settle := by
  have hguard : s.highway.hunting = true ∧ syncAtLast s.highway.hfs hfs = true :=
    ⟨by simp [Highway.hunting, hst], syncAtLast_of_syncComes hsync⟩
  change execHuntSync hfs s = _
  rw [execHuntSync, unlessHeld_high _ _ hhigh, if_pos hguard, foundHfs_sync hsync, State.done_eq]
  rfl

/-! ### The hunt -/

theorem huntSync_fresh {s : State} {count : Nat} (h : ¬ (s.highway.reference = true ∧ count = 1024)) :
    s.huntSync count = s.huntRun 0 := if_neg (by simpa using h)

theorem huntSync_spaced {s : State} {count : Nat} (href : s.highway.reference = true) (hcount : count = 1024) :
    s.huntSync count = if s.highway.goodRun + 1 = 2 then (s.huntRun 2).acquire else s.huntRun (s.highway.goodRun + 1) :=
  if_pos (by simp [href, hcount, Config.frameClocks])

/-- Settles O7: a sync that is not at bit count 1024 from a reference, and one that is but does not complete the run. -/
theorem huntSyncMeasuresSpacing : Obligations.HuntSyncMeasuresSpacing := by
  intro s hfs hhigh ha hst hsync
  have hexec := exec_huntSync hhigh hst hsync
  have hsettled : ∀ run : Nat, ((atSync s).huntRun run).settle = (atSync s).huntRun run := fun run =>
    settle_self (s := (atSync s).huntRun run) ha
  refine ⟨fun hno => ?_, fun href hcount hrun => ?_⟩
  · rw [hexec, huntSync_fresh (s := atSync s) hno, hsettled]
    rfl
  · rw [hexec, huntSync_spaced (s := atSync s) href (by omega), if_neg (show ¬ (atSync s).highway.goodRun + 1 = 2 by simp only [atSync]; omega), hsettled]
    rfl

/-! ### Acquisition -/

theorem baseDrive_slot (s : State) (sl : SlotId) :
    (baseDrive s.highway.slotMap)[sl.val] = if s.slotOwner sl = none then none else some 0 := by
  have hbase : (baseDrive s.highway.slotMap)[sl.val] = (s.slotOwner sl).map fun _ => 0 := by
    simp [baseDrive, State.slotOwner]
  rw [hbase]
  cases s.slotOwner sl <;> rfl

theorem restartAtAcquisition_eq (k : Correlator) :
    restartAtAcquisition k
      = if k.phase = .window then { k with window := 0, sums := List.replicate k.sums.length 0 } else k := by
  obtain ⟨entry, phase, leadIn, window, restarts, sums⟩ := k
  cases phase with
  | leadIn => rfl
  | window => rw [if_pos rfl, ← List.map_const', restartAtAcquisition, restartWindow]

/-- What acquisition leaves, part by part (R28). -/
theorem settle_acquire (s : State) :
    s.acquire.settle = { s with
      highway := { s.highway with state := .synced, drive := baseDrive s.highway.slotMap }
      channels := s.guardOpen.channels
      dsu := s.restartSurveys.dsu
      link := { s.link with
        notices := placeNotice 0xFF (.highway .sync s.highway.frameCounter) s.link.notices, attn := true } } := by
  have hdue : attnDue s.acquire.link = true := by
    simp [State.acquire, State.raiseHighway, attnDue, placeNotice_ne_nil]
  rw [State.settle, State.modLink, hdue]
  rfl

/-- Settles O8: the acts of acquisition, each in its own part of the state. -/
theorem acquisitionCompletes : Obligations.AcquisitionCompletes := by
  intro s hfs hhigh hst hsync href hcount hrun
  have hexec := exec_huntSync hhigh hst hsync
  rw [huntSync_spaced (s := atSync s) href (by omega), if_pos (show (atSync s).highway.goodRun + 1 = 2 by simp only [atSync]; omega)] at hexec
  rw [settle_acquire] at hexec
  refine ⟨_, hexec, rfl, rfl, rfl, rfl, rfl, fun sl => baseDrive_slot s sl, fun c => ?channel, rfl, fun i k hk => ?held,
    fun i hi => ?idle, rfl, rfl, rfl, rfl, rfl, rfl, rfl, rfl, hhigh⟩
  case channel => exact State.guardOpen_ch s c
  case held =>
    refine (State.restartSurveys_unit s i).trans ?_
    rw [hk, Option.map_some, restartAtAcquisition_eq]
  case idle =>
    refine (State.restartSurveys_unit s i).trans ?_
    rw [hi, Option.map_none]

end Sys2Proof.Proofs
end

section
/-! PROOF. HIGHWAY_LOSS (R25, R26, R51): the loss, and every drain ended with it. -/

namespace Sys2Proof.Proofs
open Sys2Proof.Machine Sys2Proof.Safety Sys2Proof.Laws

/-! ### The drains -/

/-- A channel whose drain ends with its entries expired (R50, R51). -/
def haltedExpired (ch : Channel) : Channel :=
  { ch with
    state := .halted
    eq := { ch.eq with pendingRefs := [] }
    counters := { ch.counters with refsMissed := ch.counters.refsMissed + BitVec.ofNat 32 ch.eq.pendingRefs.length } }

theorem loseDrain_eq {s : State} {c : ChanId} (h : (s.ch c).state = .draining) :
    loseDrain s c = (s.setCh c (haltedExpired (s.ch c))).raiseCh c (.drained .lineLost (s.ch c).eq.pendingRefs.length) := by
  rw [loseDrain, if_pos h, endDrainExpiring_eq]
  rfl

/-- A notice of a drain of one of these channels. -/
def drainNotice (cs : List ChanId) (n : Notice) : Bool :=
  noticeKind n.body == 0x45 && cs.any fun c => n.channel == chanByte c

theorem drainNotice_iff {cs : List ChanId} {n : Notice} :
    drainNotice cs n = true ↔ noticeKind n.body = 0x45 ∧ ∃ c ∈ cs, n.channel = chanByte c := by
  simp [drainNotice]

/-- What the end of these channels' drains leaves, whatever their order (R26, R51). -/
structure DrainsLost (cs : List ChanId) (s t : State) : Prop where
  rest : t = { s with channels := t.channels, link := { s.link with notices := t.link.notices } }
  ended : ∀ c ∈ cs, t.ch c = haltedExpired (s.ch c)
  told : ∀ c ∈ cs, ∃ n ∈ t.link.notices, n.channel = chanByte c
    ∧ n.body = .drained .lineLost (s.ch c).eq.pendingRefs.length
  others : ∀ c, c ∉ cs → t.ch c = s.ch c
  notices : OthersStand (drainNotice cs) s t

theorem drainsLost_fold (cs : List ChanId) :
    ∀ s : State, cs.Nodup → (∀ c ∈ cs, (s.ch c).state = .draining) → DrainsLost cs s (cs.foldl loseDrain s) := by
  induction cs with
  | nil => exact fun s _ _ => ⟨rfl, nofun, nofun, fun _ _ => rfl, rfl⟩
  | cons c cs ih =>
    intro s hnodup hdraining
    obtain ⟨hc, hnodup⟩ := List.nodup_cons.1 hnodup
    have hlose := loseDrain_eq (hdraining c (.head _))
    have hch : ∀ d, d ≠ c → (loseDrain s c).ch d = s.ch d := fun d hd => by
      rw [hlose]
      exact State.setCh_ch_ne _ _ _ _ hd
    have hne : ∀ d ∈ cs, d ≠ c := fun d hd h => hc (h ▸ hd)
    have h := ih (loseDrain s c) hnodup fun d hd => by
      rw [hch d (hne d hd)]
      exact hdraining d (.tail _ hd)
    have hraised : ∃ n ∈ (loseDrain s c).link.notices, n.channel = chanByte c
        ∧ n.body = .drained .lineLost (s.ch c).eq.pendingRefs.length := by
      rw [hlose]
      exact exists_mem_placeNotice _ _ _
    rw [List.foldl_cons]
    refine ⟨?rest, fun d hd => ?ended, fun d hd => ?told, fun d hd => ?others, ?notices⟩
    case rest =>
      rw [h.rest, hlose]
      rfl
    case ended =>
      obtain rfl | hd := List.mem_cons.1 hd
      · rw [h.others d hc, hlose]
        exact State.setCh_ch_same _ _ _
      · rw [h.ended d hd, hch d (hne d hd)]
    case told =>
      obtain rfl | hd := List.mem_cons.1 hd
      · obtain ⟨n, hn, hchannel, hbody⟩ := hraised
        refine ⟨n, mem_of_othersStand h.notices hn ?_, hchannel, hbody⟩
        rw [← Bool.not_eq_true, drainNotice_iff]
        rintro ⟨-, e, he, hchannel'⟩
        exact hne e he (chanByte_inj (hchannel'.symm.trans hchannel))
      · obtain ⟨n, hn, hchannel, hbody⟩ := h.told d hd
        exact ⟨n, hn, hchannel, by rw [hbody, hch d (hne d hd)]⟩
    case others =>
      rw [List.mem_cons, not_or] at hd
      rw [h.others d hd.2, hch d hd.1]
    case notices =>
      have hfirst : OthersStand (drainNotice (c :: cs)) s (loseDrain s c) := by
        rw [hlose]
        exact placeNotice_others (fun n hn hk => drainNotice_iff.2 ⟨hk, c, .head _, hn⟩) _
      refine othersStand_trans hfirst (othersStand_mono (fun n hn => ?_) h.notices)
      obtain ⟨hk, d, hd, hn⟩ := drainNotice_iff.1 hn
      exact drainNotice_iff.2 ⟨hk, d, .tail _ hd, hn⟩

/-! ### The loss -/

/-- The highway lost, before the drains end: LOST, counted, and HIGHWAY raised with cause LOST (R25, R32). -/
def lossBegun (s : State) (sync : Bool) : State :=
  { s with
    highway := s.highway.lost sync
    device := { s.device with syncLosses := s.device.syncLosses + 1 }
    link := { s.link with
      notices := placeNotice 0xFF (.highway .lost s.highway.frameCounter) s.link.notices } }

/-- The channels in DRAINING, in the free order of the loss. -/
def drainingChannels (s : State) : List ChanId := s.channelsInFreeOrder fun c => decide ((s.ch c).state = .draining)

theorem mem_drainingChannels {s : State} {c : ChanId} : c ∈ drainingChannels s ↔ (s.ch c).state = .draining := by
  rw [drainingChannels, mem_channelsInFreeOrder, decide_eq_true_iff]

theorem loseHighway_eq (s : State) (sync : Bool) :
    s.loseHighway sync = ((drainingChannels (lossBegun s sync)).foldl loseDrain (lossBegun s sync)).nextChoice := rfl

theorem exec_highwayLoss {s : State} {hfs : List Bool} {sync : Bool} (hhigh : s.nrstLow = false)
    (hst : s.highway.state = .synced) (hlt : s.highway.bitCount < 3072) (hcount : s.highway.bitCount + hfs.length = 3072)
    (hsync : if sync then SyncComes s hfs else NoSync s hfs) :
    exec (.highwayLoss hfs) s = .next ((s.foundHfs hfs).loseHighway sync).settle := by
  have hlevels : (noSync s.highway.hfs hfs = true ∨ syncAtLast s.highway.hfs hfs = true)
      ∧ syncAtLast s.highway.hfs hfs = sync := by
    cases sync with
    | true =>
      have h := syncAtLast_of_syncComes (s := s) hsync
      exact ⟨.inr h, h⟩
    | false =>
      have h : noSync s.highway.hfs hfs = true := (noSync_iff _ _).2 hsync
      refine ⟨.inl h, Bool.eq_false_iff.2 fun hlast => ?_⟩
      rw [noSync_false_of_syncAtLast hlast] at h
      cases h
  change execHighwayLoss hfs s = _
  rw [execHighwayLoss, unlessHeld_high _ _ hhigh, if_pos ⟨hst, hlt, hcount, hlevels.1⟩, hlevels.2, State.done_eq]

theorem getLastD_of_length {l : List Bool} {n : Nat} (h : l.length = n + 1) (a b : Bool) : l.getLastD a = l.getLastD b := by
  cases l with
  | nil => cases h
  | cons x xs => rfl

/-- Settles O11: the loss as it begins, and then the drains it ends, in any order. -/
theorem highwayLossTaken : Obligations.HighwayLossTaken := by
  intro s hfs sync hhigh hst hlt hcount hsync
  obtain ⟨n, hn⟩ : ∃ n, hfs.length = n + 1 := ⟨hfs.length - 1, by omega⟩
  have hch : ∀ c, (lossBegun (s.foundHfs hfs) sync).ch c = s.ch c := fun _ => rfl
  have hmem : ∀ c, c ∈ drainingChannels (lossBegun (s.foundHfs hfs) sync) ↔ (s.ch c).state = .draining :=
    fun _ => mem_drainingChannels
  have hexec := exec_highwayLoss hhigh hst hlt hcount hsync
  rw [loseHighway_eq] at hexec
  have h := drainsLost_fold (drainingChannels (lossBegun (s.foundHfs hfs) sync)) (lossBegun (s.foundHfs hfs) sync)
    (nodup_channelsInFreeOrder _ _) fun c hc => mem_drainingChannels.1 hc
  generalize (drainingChannels (lossBegun (s.foundHfs hfs) sync)).foldl loseDrain (lossBegun (s.foundHfs hfs) sync) = t
    at hexec h
  obtain ⟨hrest, hended, htold, hothers, hnotices⟩ := h
  have hlostTold : ∃ n ∈ t.link.notices, n.channel = 0xFF ∧ n.body = .highway .lost s.highway.frameCounter := by
    obtain ⟨n, hn, hchannel, hbody⟩ := exists_mem_placeNotice 0xFF (.highway .lost s.highway.frameCounter) s.link.notices
    refine ⟨n, mem_of_othersStand hnotices hn ?_, hchannel, hbody⟩
    rw [← Bool.not_eq_true, drainNotice_iff, hbody]
    rintro ⟨hk, -⟩
    cases hk
  have hdue : attnDue t.nextChoice.link = true := by
    obtain ⟨n, hn, -⟩ := hlostTold
    simp [attnDue, State.nextChoice, List.ne_nil_of_mem hn]
  rw [State.settle, State.modLink, hdue] at hexec
  have htouched : OthersStand (fun n => n.channel == 0xFF && noticeKind n.body == 0x50 || noticeKind n.body == 0x45
      && (List.finRange 40).any fun c => n.channel == chanByte c && decide ((s.ch c).state = .draining)) s t := by
    have hbegun : OthersStand (fun n => n.channel == 0xFF && noticeKind n.body == 0x50 || noticeKind n.body == 0x45
        && (List.finRange 40).any fun c => n.channel == chanByte c && decide ((s.ch c).state = .draining)) s
        (lossBegun (s.foundHfs hfs) sync) :=
      placeNotice_others (fun n hc hk => by
        have hkind : noticeKind n.body = 0x50 := hk
        simp only [hc, hkind, beq_self_eq_true, Bool.and_self, Bool.true_or]) _
    refine othersStand_trans hbegun (othersStand_mono (fun n hn => ?_) hnotices)
    obtain ⟨hk, c, hc, hchannel⟩ := drainNotice_iff.1 hn
    have hany : ((List.finRange 40).any fun c => n.channel == chanByte c && decide ((s.ch c).state = .draining)) = true :=
      List.any_eq_true.2 ⟨c, List.mem_finRange c, by simp [hchannel, (hmem c).1 hc]⟩
    simp [hk, hany]
  have hhighway : (lossBegun (s.foundHfs hfs) sync).highway = { s.highway with
      state := .lost, hfs := hfs.getLastD false, bitCount := if sync then 0 else 3072, reference := sync, goodRun := 0
      drive := Vector.replicate 64 none } := by
    rw [← getLastD_of_length hn s.highway.hfs]
    rfl
  have hlink : t.link = { s.link with notices := t.link.notices } := (congrArg State.link hrest :)
  have hnrst : t.nrstLow = false := (congrArg State.nrstLow hrest).trans hhigh
  have hkept : t.dsu = s.dsu ∧ t.pageMem = s.pageMem ∧ t.freePages = s.freePages ∧ t.freeTaps = s.freeTaps
      ∧ t.profiles = s.profiles ∧ t.lock = s.lock ∧ t.snapshot = s.snapshot :=
    ⟨(congrArg State.dsu hrest :), (congrArg State.pageMem hrest :), (congrArg State.freePages hrest :),
      (congrArg State.freeTaps hrest :), (congrArg State.profiles hrest :), (congrArg State.lock hrest :),
      (congrArg State.snapshot hrest :)⟩
  obtain ⟨hdsu, hmemory, hpages, htaps, hprofiles, hlock, hsnapshot⟩ := hkept
  have hdevice : t.device = { s.device with syncLosses := s.device.syncLosses + 1 } := (congrArg State.device hrest :)
  exact ⟨_, hexec, (congrArg State.highway hrest).trans hhighway, hdevice,
    fun c hc => ⟨hended c ((hmem c).2 hc), htold c ((hmem c).2 hc)⟩, fun c hc => hothers c (mt (hmem c).1 hc),
    hlostTold, hdsu, hmemory, hpages, htaps, hprofiles, hlock, hsnapshot,
    congrArg (fun l : Link => { l with attn := true }) hlink, hnrst, htouched⟩

end Sys2Proof.Proofs
end

section
/-! SUPPORT. The work of the channels at a frame end, one after the other in any order (section 3.3): what one channel's work
leaves of the part, what a list of channels leaves, and the moment at which a channel of the list does its own. -/

namespace Sys2Proof.Proofs
open Sys2Proof.Machine Sys2Proof.Safety Sys2Proof.Laws

/-! ### The survey stage and the other channels -/

/-- The survey stage of a turn: nothing, a count in the channel's correlator, or the survey's end (R148 to R153). -/
theorem surveyStage_cases (s : State) (c : ChanId) (x : Nat → Sample) (r : Sample) (slipped : Bool) :
    surveyStage s c x r slipped = s ∨ ∃ i k, s.dsu.unit i = some k ∧ k.entry.channel = c
      ∧ ((∃ k', surveyStage s c x r slipped = s.setUnit i (some k'))
        ∨ ∃ y record, y.tx = (s.ch c).tx ∧ surveyStage s c x r slipped = (s.setCh c y).endRunning c i record) := by
  cases hu : s.dsu.unitOf c with
  | none => exact .inl (surveyStage_idle x r slipped hu)
  | some i =>
    obtain ⟨k, hk, hkc⟩ := holds_unitOf hu
    refine .inr ⟨i, k, hk, hkc, ?_⟩
    rw [surveyStage_held x r slipped hu hk]
    cases hp : k.phase with
    | leadIn => exact .inl ⟨_, surveyTurn_leadIn x r slipped hp⟩
    | window =>
      cases slipped with
      | false =>
        by_cases hw : k.window + 1 = 1024
        · exact .inr ⟨_, _, by rw [windowApplied_echo], (surveyTurn_ends x r hp hw).trans (endWindow_eq _ _ _ _)⟩
        · exact .inl ⟨_, surveyTurn_counts x r hp hw⟩
      | true =>
        by_cases hr : k.restarts + 1 < 3
        · exact .inl ⟨_, surveyTurn_restarts x r hp hr⟩
        · refine .inr ⟨s.ch c, plainRecord .slipped k.entry (k.restarts + 1), rfl, ?_⟩
          rw [State.setCh_ch_self]
          exact surveyTurn_slipped x r hp (Nat.not_lt.1 hr)

/-- The end of a survey leaves every other channel that is not queued. -/
theorem endRunning_ch_ne {s : State} {c d : ChanId} (hd : d ≠ c) (hq : ∀ e ∈ s.dsu.queue, e.channel ≠ d) (i : Fin 4)
    (r : SurveyRecord) : (s.endRunning c i r).ch d = s.ch d := by
  have hgrants : (s.endRunning c i r).ch d = (surveyOver s c r).ch d :=
    grantUpTo_ch_same 4 ((surveyOver s c r).setUnit i none) hq
  rw [hgrants, surveyOver_ch, if_neg hd]

/-- The end of a survey leaves every other running one in its correlator. -/
theorem endRunning_unit_ne {s : State} {i j : Fin 4} {k : Correlator} (hj : j ≠ i) (hk : s.dsu.unit j = some k)
    (c : ChanId) (r : SurveyRecord) : (s.endRunning c i r).dsu.unit j = some k := by
  refine grantUpTo_keeps (P := fun t => t.dsu.unit j = some k) 4 (fun t e rest l _ hidle ht => ?_) ?_
  · rw [grantHead_unit]
    split
    · next hjl => rw [hjl, hidle] at ht; cases ht
    · exact ht
  · rw [State.setUnit_unit_ne _ _ _ _ hj]
    exact hk

/-- A channel that is not queued is not granted a correlator in another's turn (R43). -/
theorem turn_ch_still {s : State} {c d : ChanId} (hs : SurveyUnits s) (sl : SlotId) (rx : Option Sample) (hd : d ≠ c)
    (hv : (s.ch d).survey = .noSurvey) : (turn s c sl rx).ch d = s.ch d := by
  have hqueue : ∀ e ∈ (echoedState s c sl rx).dsu.queue, e.channel ≠ d := by
    rw [echoedState_dsu]
    intro e he hed
    rw [(hs.queued d).2 ⟨e, he, hed⟩] at hv
    cases hv
  rw [turn_ch_others s c sl rx hd, ← echoedState_others s c sl rx hd]
  obtain h | ⟨i, k, -, -, ⟨k', h⟩ | ⟨y, record, -, h⟩⟩ := surveyStage_cases (echoedState s c sl rx) c (turnInput s c sl)
    (turnError s c sl rx) rx.isNone
  · rw [surveyedState, h]
  · rw [surveyedState, h, State.setUnit_ch]
  · rw [surveyedState, h, endRunning_ch_ne (s := State.setCh _ c y) hd hqueue, State.setCh_ch_ne _ _ _ _ hd]

/-- Another channel's survey runs on in its correlator (R43). -/
theorem turn_unit {s : State} {c : ChanId} {j : Fin 4} {k : Correlator} (hk : s.dsu.unit j = some k)
    (hc : k.entry.channel ≠ c) (sl : SlotId) (rx : Option Sample) : (turn s c sl rx).dsu.unit j = some k := by
  have hk' : (echoedState s c sl rx).dsu.unit j = some k := by rw [echoedState_dsu, hk]
  have hother : ∀ i l, (echoedState s c sl rx).dsu.unit i = some l → l.entry.channel = c → j ≠ i := by
    rintro i l hl hlc rfl
    rw [hk'] at hl
    cases hl
    exact hc hlc
  rw [turn_dsu]
  obtain h | ⟨i, l, hl, hlc, ⟨k', h⟩ | ⟨y, record, -, h⟩⟩ := surveyStage_cases (echoedState s c sl rx) c (turnInput s c sl)
    (turnError s c sl rx) rx.isNone
  · rw [surveyedState, h, hk']
  · rw [surveyedState, h, State.setUnit_unit_ne _ _ _ _ (hother i l hl hlc), hk']
  · rw [surveyedState, h]
    exact endRunning_unit_ne (s := State.setCh _ c y) (hother i l hl hlc) hk' c record

/-! ### One channel's work -/

section
variable {hrd : Option (BitVec 1024)} {s : State} {c : ChanId}

theorem frameWork_opened {sl : SlotId} (ho : (s.ch c).state = .opened) (hsl : (s.ch c).slot = some sl) :
    frameWork hrd s c = turn s c sl (hrd.map fun bits => slotSample bits sl) := by
  rw [frameWork, ho, hsl]

/-- A DRAINING channel's work: the frame is counted, and the drain may end with it (R48, R50). -/
theorem frameWork_draining (hd : (s.ch c).state = .draining) : frameWork hrd s c =
    if (s.ch c).drainCount + 1 = 800
    then (s.setCh c (drainCounted (s.ch c))).raiseCh c (.drained .timeout (s.ch c).eq.pendingRefs.length)
    else s.setCh c (drainCounted (s.ch c)) := by
  rw [frameWork, hd]

theorem frameWork_draining_ch (hd : (s.ch c).state = .draining) : (frameWork hrd s c).ch c = drainCounted (s.ch c) := by
  rw [frameWork_draining hd]
  split
  · exact State.setCh_ch_same _ _ _
  · exact State.setCh_ch_same _ _ _

theorem drainCounted_state {ch : Channel} (hd : ch.state = .draining) :
    (drainCounted ch).state = if ch.drainCount + 1 = 800 then .halted else .draining := by
  rw [drainCounted]
  split
  · rfl
  · exact hd

theorem frameWork_none (ho : ∀ sl, ¬ ((s.ch c).state = .opened ∧ (s.ch c).slot = some sl))
    (hd : (s.ch c).state ≠ .draining) : frameWork hrd s c = s := by
  unfold frameWork
  split
  · next sl hst hsl => exact absurd ⟨hst, hsl⟩ (ho sl)
  · next hst => exact absurd hst hd
  · rfl

/-- A channel's work is its turn, its drain's frame, or nothing. -/
theorem frameWork_cases (hrd : Option (BitVec 1024)) (s : State) (c : ChanId) :
    (∃ sl, (s.ch c).state = .opened ∧ (s.ch c).slot = some sl)
      ∨ (s.ch c).state = .draining ∨ frameWork hrd s c = s := by
  by_cases ho : ∃ sl, (s.ch c).state = .opened ∧ (s.ch c).slot = some sl
  · exact .inl ho
  · by_cases hd : (s.ch c).state = .draining
    · exact .inr (.inl hd)
    · exact .inr (.inr (frameWork_none (not_exists.1 ho) hd))

theorem drainFrame_eq (hd : (s.ch c).state = .draining) : drainFrame s c = frameWork hrd s c := by
  have hcounted : (s.modCh c fun ch => { ch with drainCount := ch.drainCount + 1 }).ch c
      = { s.ch c with drainCount := (s.ch c).drainCount + 1 } := State.modCh_ch_same _ _ _
  rw [frameWork_draining hd, drainFrame, hcounted]
  by_cases hz : (s.ch c).drainCount + 1 = 800
  · rw [if_pos (show (s.ch c).drainCount + 1 = Config.drainFrames from hz), if_pos hz, State.timeoutDrain,
      endDrainExpiring_eq, hcounted, State.modCh, State.setCh_setCh, drainCounted, if_pos hz, hz]
  · rw [if_neg (show ¬ (s.ch c).drainCount + 1 = Config.drainFrames from hz), if_neg hz, drainCounted, if_neg hz]
    rfl

theorem acts_frameWork (hrd : Option (BitVec 1024)) (s : State) (c : ChanId) : Acts s (frameWork hrd s c) := by
  obtain ⟨sl, ho, hsl⟩ | hd | h := frameWork_cases hrd s c
  · rw [frameWork_opened ho hsl]
    exact (kept_turn sl _ (by rw [ho]; nofun)).acts
  · rw [← drainFrame_eq hd]
    exact acts_drainFrame hd
  · rw [h]

/-- The model's work of a channel is the statements', while the slot map and the channels' slots agree. -/
theorem channelFrame_eq (hm : SlotMap s) : channelFrame (hrd.map receiveSamples) s c = frameWork hrd s c := by
  unfold channelFrame
  cases hst : (s.ch c).state with
  | opened =>
    cases hsl : (s.ch c).slot with
    | none => rw [(hm c).1.1 hsl] at hst; cases hst
    | some sl =>
      have hturn : s.turnSlot c = some sl := by
        rw [State.turnSlot, hsl]
        exact if_pos (((hm c).2 sl).1 hsl)
      have hrx : (hrd.map receiveSamples).map (fun v => v[sl.val]) = hrd.map fun bits => slotSample bits sl := by
        cases hrd with
        | none => rfl
        | some bits => simp [receiveSamples]
      rw [hturn, frameWork_opened hst hsl]
      exact congrArg (turn s c sl) hrx
  | draining => exact drainFrame_eq hst
  | free => exact (frameWork_none (by rw [hst]; nofun) (by rw [hst]; nofun)).symm
  | halted => exact (frameWork_none (by rw [hst]; nofun) (by rw [hst]; nofun)).symm

end

/-! ### What the work leaves -/

/-- Whether a channel's work may touch a waiting notice (R208). -/
def workTouches (c : ChanId) (ch : Channel) (n : Notice) : Bool :=
  n.channel == chanByte c && match ch.state with
    | .opened => turnKinds.contains (noticeKind n.body)
    | .draining => noticeKind n.body == 0x45 && ch.drainCount + 1 == 800
    | _ => false

theorem workTouches_granted {x y : Channel} (h : GrantedTo x y) (c : ChanId) (n : Notice) :
    workTouches c y n = workTouches c x n := by
  obtain ⟨_, _, rfl⟩ := h
  rfl

theorem workTouches_channel {c : ChanId} {ch : Channel} {n : Notice} (h : workTouches c ch n = true) :
    n.channel = chanByte c := by
  rw [workTouches, Bool.and_eq_true] at h
  exact eq_of_beq h.1

/-- Whether the work of these channels may touch a waiting notice. -/
def listTouches (cs : List ChanId) (s : State) (n : Notice) : Bool := cs.any fun c => workTouches c (s.ch c) n

theorem listTouches_all (s : State) : listTouches (List.finRange 40) s = touchedByWork s := rfl

theorem listTouches_iff {cs : List ChanId} {s : State} {n : Notice} :
    listTouches cs s n = true ↔ ∃ c ∈ cs, workTouches c (s.ch c) n = true := List.any_eq_true

/-- What the work of these channels leaves of the part, and of the channels, surveys, slots, pages and notices that are
none of theirs (R43). -/
structure WorkFrame (cs : List ChanId) (s t : State) : Prop where
  rest : t = { s with
    highway := { s.highway with drive := t.highway.drive }
    pageMem := t.pageMem
    dsu := t.dsu
    channels := t.channels
    link := { s.link with notices := t.link.notices, dataQueue := t.link.dataQueue } }
  others : ∀ c : ChanId, c ∉ cs → GrantedTo (s.ch c) (t.ch c)
  still : SurveyUnits s → ∀ c : ChanId, c ∉ cs → (s.ch c).survey = .noSurvey → t.ch c = s.ch c
  units : ∀ (i : Fin 4) (k : Correlator), s.dsu.unit i = some k → k.entry.channel ∉ cs → t.dsu.unit i = some k
  drive : ∀ sl : SlotId, (∀ c ∈ cs, (s.ch c).state = .opened → (s.ch c).slot ≠ some sl) →
    t.highway.drive[sl.val] = s.highway.drive[sl.val]
  memory : memWf s.pageMem = true → memWf t.pageMem = true ∧ ∀ a : Nat,
    (∀ c ∈ cs, (s.ch c).state = .opened → a ≠ historyAddress (s.ch c).pages ((s.ch c).writeIndex : Int)) →
    memRead t.pageMem a = memRead s.pageMem a
  notices : OthersStand (listTouches cs s) s t
  places : ∀ c : ChanId, (t.ch c).state = .opened → (s.ch c).state = .opened ∧ (t.ch c).pages = (s.ch c).pages
  surveys : SurveyUnits s → SurveyUnits t
  slots : SlotMap s → SlotMap t

theorem workFrame_nil (s : State) : WorkFrame [] s s :=
  ⟨rfl, fun _ _ => .refl _, fun _ _ _ _ => rfl, fun _ _ hk _ => hk, fun _ _ => rfl, fun hm => ⟨hm, fun _ _ => rfl⟩,
    othersStand_refl _ _, fun _ ho => ⟨ho, rfl⟩, id, id⟩

/-- A turn's work. -/
theorem workFrame_turn {s : State} {c : ChanId} {sl : SlotId} (ho : (s.ch c).state = .opened)
    (hsl : (s.ch c).slot = some sl) (rx : Option Sample) : WorkFrame [c] s (turn s c sl rx) where
  rest := by
    have h := turn_rest s c sl rx
    rw [turn_highway] at h
    rw [h]
  others d hd := turn_others s sl rx (mt List.mem_singleton.2 hd)
  still hs d hd hv := turn_ch_still hs sl rx (mt List.mem_singleton.2 hd) hv
  units i k hk hc := turn_unit hk (mt List.mem_singleton.2 hc) sl rx
  drive sm hsm := by
    have hne : sl.val ≠ sm.val := fun h => hsm c (.head _) ho (by rw [hsl, Fin.ext h])
    rw [turn_highway]
    dsimp only
    exact Vector.getElem_set_ne _ _ hne
  memory hm := by
    rw [turn_pageMem]
    refine ⟨memWf_write _ _ hm, fun a ha => ?_⟩
    rw [historyWrite, memRead_write _ _ _ hm, if_neg (ha c (.head _) ho)]
  notices := by
    refine othersStand_mono (fun n hn => ?_) (turn_notices s c sl rx)
    obtain ⟨hchannel, hkind⟩ := ofKinds_iff.1 hn
    refine listTouches_iff.2 ⟨c, .head _, ?_⟩
    rw [workTouches, ho, hchannel]
    simpa using hkind
  places d hopen := by
    have hplace : SamePlace (s.ch d) ((turn s c sl rx).ch d) := by
      by_cases hd : d = c
      · exact hd ▸ turn_place s c sl rx
      · exact (turn_others s sl rx hd).place
    exact ⟨hplace.state.symm.trans hopen, hplace.pages⟩
  surveys := acts_keep (fun _ _ => surveyUnits_act) (kept_turn sl rx (by rw [ho]; nofun)).acts
  slots := acts_keep (fun _ _ => slotMap_act) (kept_turn sl rx (by rw [ho]; nofun)).acts

theorem workFrame_drain (hrd : Option (BitVec 1024)) {s : State} {c : ChanId} (hd : (s.ch c).state = .draining) :
    WorkFrame [c] s (frameWork hrd s c) := by
  have hacts := acts_frameWork hrd s c
  have hch : ∀ d, d ≠ c → (frameWork hrd s c).ch d = s.ch d := fun d hne => by
    rw [frameWork_draining hd]
    split
    · exact State.setCh_ch_ne _ _ _ _ hne
    · exact State.setCh_ch_ne _ _ _ _ hne
  have hrest : frameWork hrd s c = { s with
      channels := (frameWork hrd s c).channels
      link := { s.link with notices := (frameWork hrd s c).link.notices } } := by
    rw [frameWork_draining hd]
    split <;> rfl
  have hnotices : OthersStand (listTouches [c] s) s (frameWork hrd s c) := by
    rw [frameWork_draining hd]
    split
    · next hz =>
      refine othersStand_mono (fun n hn => ?_)
        (othersStand_raiseCh (s.setCh c (drainCounted (s.ch c))) c (.drained .timeout (s.ch c).eq.pendingRefs.length))
      obtain ⟨hchannel, hkind⟩ := ofKinds_iff.1 hn
      refine listTouches_iff.2 ⟨c, .head _, ?_⟩
      have hkind : noticeKind n.body = 0x45 := List.mem_singleton.1 hkind
      simp [workTouches, hd, hchannel, hkind, hz]
    · exact othersStand_refl _ _
  have hplaces : ∀ d, ((frameWork hrd s c).ch d).state = .opened →
      (s.ch d).state = .opened ∧ ((frameWork hrd s c).ch d).pages = (s.ch d).pages := fun d hopen => by
    by_cases hdc : d = c
    · subst hdc
      have hsame : (frameWork hrd s d).ch d = drainCounted (s.ch d) := frameWork_draining_ch hd
      rw [hsame, drainCounted_state hd] at hopen
      split at hopen <;> cases hopen
    · rw [hch d hdc] at hopen ⊢
      exact ⟨hopen, rfl⟩
  generalize frameWork hrd s c = t at hacts hch hrest hnotices hplaces
  refine ⟨?_, fun d hd => ?_, fun _ d hd _ => hch d (mt List.mem_singleton.2 hd), ?_, ?_, ?_, hnotices, hplaces,
    acts_keep (fun _ _ => surveyUnits_act) hacts, acts_keep (fun _ _ => slotMap_act) hacts⟩
  · rw [hrest]
  · rw [hch d (mt List.mem_singleton.2 hd)]
    exact .refl _
  · rw [hrest]
    exact fun _ _ hk _ => hk
  · rw [hrest]
    exact fun _ _ => rfl
  · rw [hrest]
    exact fun hm => ⟨hm, fun _ _ => rfl⟩

theorem workFrame_single (hrd : Option (BitVec 1024)) (s : State) (c : ChanId) : WorkFrame [c] s (frameWork hrd s c) := by
  obtain ⟨sl, ho, hsl⟩ | hd | h := frameWork_cases hrd s c
  · rw [frameWork_opened ho hsl]
    exact workFrame_turn ho hsl _
  · exact workFrame_drain hrd hd
  · rw [h]
    exact ⟨rfl, fun _ _ => .refl _, fun _ _ _ _ => rfl, fun _ _ hk _ => hk, fun _ _ => rfl,
      fun hm => ⟨hm, fun _ _ => rfl⟩, othersStand_refl _ _, fun _ ho => ⟨ho, rfl⟩, id, id⟩

/-- A list's work is that of its first channel and then that of the others, none of which it touches. -/
theorem workFrame_cons {c : ChanId} {cs : List ChanId} {s t u : State} (hc : c ∉ cs) (h : WorkFrame [c] s t)
    (k : WorkFrame cs t u) : WorkFrame (c :: cs) s u := by
  have hne : ∀ d ∈ cs, d ∉ [c] := fun d hd hdc => hc (List.mem_singleton.1 hdc ▸ hd)
  have hsplit : ∀ d, d ∉ c :: cs → d ∉ [c] ∧ d ∉ cs := fun d hd =>
    ⟨fun h => hd (List.mem_singleton.1 h ▸ .head _), fun h => hd (.tail _ h)⟩
  have hplace : ∀ d ∈ cs, SamePlace (s.ch d) (t.ch d) := fun d hd => (h.others d (hne d hd)).place
  have hindex : ∀ d ∈ cs, (t.ch d).writeIndex = (s.ch d).writeIndex := fun d hd => by
    obtain ⟨_, _, hg⟩ := h.others d (hne d hd)
    rw [hg]
  refine ⟨?_, fun d hd => ?_, fun hs d hd hv => ?_, fun i l hl hlc => ?_, fun sl hsl => ?_, fun hm => ?_, ?_,
    fun d hopen => ?_, k.surveys ∘ h.surveys, k.slots ∘ h.slots⟩
  · rw [k.rest, h.rest]
  · obtain ⟨h1, h2⟩ := hsplit d hd
    exact (h.others d h1).trans (k.others d h2)
  · obtain ⟨h1, h2⟩ := hsplit d hd
    have hfirst := h.still hs d h1 hv
    rw [k.still (h.surveys hs) d h2 (by rw [hfirst, hv]), hfirst]
  · obtain ⟨h1, h2⟩ := hsplit _ hlc
    exact k.units i l (h.units i l hl h1) h2
  · rw [k.drive sl fun d hd ho => ?_, h.drive sl fun d hd => ?_]
    · obtain rfl := List.mem_singleton.1 hd
      exact hsl d (.head _)
    · rw [(hplace d hd).state] at ho
      rw [(hplace d hd).slot]
      exact hsl d (.tail _ hd) ho
  · obtain ⟨hwf, hread⟩ := h.memory hm
    obtain ⟨hwf', hread'⟩ := k.memory hwf
    refine ⟨hwf', fun a ha => ?_⟩
    rw [hread' a fun d hd ho => ?_, hread a fun d hd => ?_]
    · obtain rfl := List.mem_singleton.1 hd
      exact ha d (.head _)
    · rw [(hplace d hd).state] at ho
      rw [(hplace d hd).pages, hindex d hd]
      exact ha d (.tail _ hd) ho
  · refine othersStand_trans (othersStand_mono (fun n hn => ?_) h.notices) (othersStand_mono (fun n hn => ?_) k.notices)
    · obtain ⟨d, hd, htouched⟩ := listTouches_iff.1 hn
      obtain rfl := List.mem_singleton.1 hd
      exact listTouches_iff.2 ⟨d, .head _, htouched⟩
    · obtain ⟨d, hd, hn⟩ := listTouches_iff.1 hn
      rw [workTouches_granted (h.others d (hne d hd))] at hn
      exact listTouches_iff.2 ⟨d, .tail _ hd, hn⟩
  · obtain ⟨hopen', hpages⟩ := k.places d hopen
    obtain ⟨hopen'', hpages'⟩ := h.places d hopen'
    exact ⟨hopen'', hpages.trans hpages'⟩

/-- What the work of a list of channels leaves, in whatever order. -/
theorem workFrame_fold (hrd : Option (BitVec 1024)) (cs : List ChanId) :
    ∀ s : State, cs.Nodup → WorkFrame cs s (cs.foldl (frameWork hrd) s) := by
  induction cs with
  | nil => exact fun s _ => workFrame_nil s
  | cons c cs ih =>
    intro s hnodup
    obtain ⟨hc, hnodup⟩ := List.nodup_cons.1 hnodup
    exact workFrame_cons hc (workFrame_single hrd s c) (ih _ hnodup)

/-- The moment `a` at which a channel of the list does its work: others have worked before it, and others work after it. -/
structure Moment (hrd : Option (BitVec 1024)) (c : ChanId) (cs : List ChanId) (s a t : State) : Prop where
  before : ∃ l, l ⊆ cs ∧ c ∉ l ∧ WorkFrame l s a
  after : ∃ l, l ⊆ cs ∧ c ∉ l ∧ WorkFrame l (frameWork hrd a c) t

theorem exists_moment (hrd : Option (BitVec 1024)) {c : ChanId} {cs : List ChanId} (s : State) (hnodup : cs.Nodup)
    (hc : c ∈ cs) : ∃ a, Moment hrd c cs s a (cs.foldl (frameWork hrd) s) := by
  obtain ⟨l, m, rfl⟩ := List.append_of_mem hc
  obtain ⟨hl, hcm, hdisjoint⟩ := List.nodup_append.1 hnodup
  obtain ⟨hcm, hm⟩ := List.nodup_cons.1 hcm
  have hcl : c ∉ l := fun h => hdisjoint c h c (.head _) rfl
  refine ⟨l.foldl (frameWork hrd) s, ⟨l, List.subset_append_left _ _, hcl, workFrame_fold hrd l s hl⟩,
    ⟨m, fun d hd => List.mem_append_right _ (.tail _ hd), hcm, ?_⟩⟩
  rw [List.foldl_append, List.foldl_cons]
  exact workFrame_fold hrd m _ hm

/-- The model's run over the channels is the statements', while the slot map and the channels' slots agree. -/
theorem foldl_channelFrame (hrd : Option (BitVec 1024)) (cs : List ChanId) :
    ∀ s : State, SlotMap s → cs.foldl (channelFrame (hrd.map receiveSamples)) s = cs.foldl (frameWork hrd) s := by
  induction cs with
  | nil => exact fun _ _ => rfl
  | cons c cs ih =>
    intro s hs
    rw [List.foldl_cons, List.foldl_cons, channelFrame_eq hs]
    exact ih _ (acts_keep (fun _ _ => slotMap_act) (acts_frameWork hrd s c) hs)

end Sys2Proof.Proofs
end

section
/-! SUPPORT. What a turn leaves in its channel (R44 to R46, R90): the figures its filters set, at the end of the stages and at
the end of the turn. -/

namespace Sys2Proof.Proofs
open Sys2Proof.Machine Sys2Proof.Safety Sys2Proof.Laws

/-! ### The echo stage -/

/-- Stage 4 leaves D, the guard, the strikes and the then-mode, and its train count step leaves the taps and the flags of
the update (R45, R96). -/
theorem echoedChannel_keeps (ch : Channel) (x : Nat → Sample) (r : Sample) :
    (echoedChannel ch x r).echo.near = (echoUpdate ch x r).echo.near
      ∧ (echoedChannel ch x r).echo.far = (echoUpdate ch x r).echo.far
      ∧ (echoedChannel ch x r).echo.delay = ch.echo.delay ∧ (echoedChannel ch x r).echo.guard = ch.echo.guard
      ∧ (echoedChannel ch x r).echo.strikes = ch.echo.strikes ∧ (echoedChannel ch x r).echo.thenMode = ch.echo.thenMode
      ∧ (echoedChannel ch x r).eq = (echoUpdate ch x r).eq := by
  unfold echoedChannel trainedChannel expiredTraining echoUpdate
  dsimp only
  repeat' split
  all_goals exact ⟨rfl, rfl, rfl, rfl, rfl, rfl, rfl⟩

theorem echoUpdate_taps (ch : Channel) (x : Nat → Sample) (r : Sample) :
    (echoUpdate ch x r).echo.near
        = (if echoAdapts ch then adaptFrom r (14 + echoShift ch) x 0 ch.echo.near else ch.echo.near)
      ∧ (echoUpdate ch x r).echo.far
        = (if echoAdapts ch then adaptFrom r (14 + echoShift ch) x ch.echo.delay ch.echo.far else ch.echo.far) := by
  unfold echoUpdate
  split
  · exact ⟨rfl, rfl⟩
  · exact ⟨rfl, rfl⟩

theorem echoShift_eq (ch : Channel) :
    echoShift ch = if ch.echo.mode = .track then ch.params.echoTrackShift else ch.params.echoTrainShift := by
  unfold echoShift
  cases ch.echo.mode <;> rfl

theorem eqOutput_eq {ch : Channel} {taps : List Sample} {mode : EqMode} {n : Nat} (htaps : ch.eq.taps = taps)
    (hmode : ch.eq.mode = mode) (hindex : ch.writeIndex = n) (ring : SampleMem) (r : Sample) :
    eqOutput ch ring r = if mode = .bypass then r else equalize taps (inputRead ring (n % 1024)) := by
  subst htaps hmode hindex
  unfold eqOutput
  cases ch.eq.mode <;> rfl

section
variable (s : State) (c : ChanId) (sl : SlotId) (rx : Option Sample)

theorem receiveStage_chosen_echo : (receiveStage (chosenChannel s c) rx).echo
    = { (s.ch c).echo with guard := if rx = none then 64 else (s.ch c).echo.guard } := by
  rw [← chosenChannel_echo]
  cases rx <;> rfl

/-- The taps adapt at an unslipped turn, unguarded, in TRAIN or TRACK (R90). -/
theorem echoAdapts_received : echoAdapts (receiveStage (chosenChannel s c) rx) = true
    ↔ rx ≠ none ∧ (s.ch c).echo.mode ≠ .hold ∧ (s.ch c).echo.guard = 0 := by
  rw [echoAdapts, receiveStage_chosen_echo, Bool.and_eq_true, decide_eq_true_iff, decide_eq_true_iff]
  cases rx with
  | none => simp
  | some v => simp

/-- What stage 4 leaves of the echo state (R7, R90). -/
theorem echoedState_echo :
    let x := turnInput s c sl
    let r := turnError s c sl rx
    let shift := if (s.ch c).echo.mode = .track then (s.ch c).params.echoTrackShift else (s.ch c).params.echoTrainShift
    let e := ((echoedState s c sl rx).ch c).echo
    e.near = (if rx ≠ none ∧ (s.ch c).echo.mode ≠ .hold ∧ (s.ch c).echo.guard = 0
        then adaptFrom r (14 + shift) x 0 (s.ch c).echo.near else (s.ch c).echo.near)
      ∧ e.far = (if rx ≠ none ∧ (s.ch c).echo.mode ≠ .hold ∧ (s.ch c).echo.guard = 0
        then adaptFrom r (14 + shift) x (s.ch c).echo.delay (s.ch c).echo.far else (s.ch c).echo.far)
      ∧ e.delay = (s.ch c).echo.delay ∧ e.guard = (if rx = none then 64 else (s.ch c).echo.guard)
      ∧ e.strikes = (s.ch c).echo.strikes ∧ e.thenMode = (s.ch c).echo.thenMode := by
  intro x r shift e
  have hecho := receiveStage_chosen_echo s c rx
  have hparams : (receiveStage (chosenChannel s c) rx).params = (s.ch c).params := by
    obtain ⟨_, _, _, _, h⟩ := chosenChannel_rest s c
    rw [h]
    cases rx <;> rfl
  obtain ⟨hnear, hfar, hdelay, hguard, hstrikes, hthen, -⟩ :=
    echoedChannel_keeps (receiveStage (chosenChannel s c) rx) x r
  obtain ⟨hnear', hfar'⟩ := echoUpdate_taps (receiveStage (chosenChannel s c) rx) x r
  rw [echoShift_eq, hecho, hparams] at hnear' hfar'
  have he : e = (echoedChannel (receiveStage (chosenChannel s c) rx) x r).echo :=
    congrArg Channel.echo (echoedState_ch s c sl rx)
  have hadapts := echoAdapts_received s c rx
  rw [he, hnear, hfar, hdelay, hguard, hstrikes, hthen, hnear', hfar', hecho]
  refine ⟨?_, ?_, rfl, rfl, rfl, rfl⟩
  · exact if_congr hadapts rfl rfl
  · exact if_congr hadapts rfl rfl

/-! ### The end of the stages -/

/-- What the filters leave of the turn's figures (R10, R44, R120, R126). -/
theorem filteredState_figures :
    let r := turnError s c sl rx
    let ring := memWrite (s.ch c).eq.ring ((s.ch c).writeIndex % 1024) r
    let f := (filteredState s c sl rx).ch c
    f.writeIndex = (s.ch c).writeIndex ∧ f.heldRx = turnRx (s.ch c) rx
      ∧ f.quality.pRx = powerStep (s.ch c).quality.pRx (turnRx (s.ch c) rx)
      ∧ f.quality.pRes = powerStep (s.ch c).quality.pRes r
      ∧ f.quality.slipTurns
        = (if rx = none then min ((s.ch c).quality.slipTurns + 1) 65535 else (s.ch c).quality.slipTurns)
      ∧ f.eq.ring = ring
      ∧ f.eq.outputs = (s.ch c).eq.outputs ++ [if (s.ch c).eq.mode = .bypass then r
          else equalize (s.ch c).eq.taps (inputRead ring ((s.ch c).writeIndex % 1024))]
      ∧ f.eq.positions = (s.ch c).eq.positions ++ [(s.ch c).writeIndex % 1024] := by
  intro r ring f
  obtain ⟨houtputs, hpositions, hring, hindex, hheld, hquality⟩ := echoedState_block s c sl rx
  have htaps : ((echoedState s c sl rx).ch c).eq.taps = (s.ch c).eq.taps
      ∧ ((echoedState s c sl rx).ch c).eq.mode = (s.ch c).eq.mode := by
    obtain ⟨_, _, _, _, _, _, _, _, _, _, _, _, _, _, _, _, _, _, _, _, _, _, _, h⟩ := stagesChange_echoedState s c sl rx
    rw [h]
    exact ⟨rfl, rfl⟩
  have hf : f = eqStage (powerStage ((surveyedState s c sl rx).ch c) (turnRx (s.ch c) rx) r) r := filteredState_ch s c sl rx
  obtain ⟨_, _, _, _, _, _, hsurveyed⟩ := surveyChange_surveyed s c sl rx
  have hz : ((surveyedState s c sl rx).ch c).eq = ((echoedState s c sl rx).ch c).eq
      ∧ ((surveyedState s c sl rx).ch c).quality = ((echoedState s c sl rx).ch c).quality
      ∧ ((surveyedState s c sl rx).ch c).writeIndex = ((echoedState s c sl rx).ch c).writeIndex
      ∧ ((surveyedState s c sl rx).ch c).heldRx = ((echoedState s c sl rx).ch c).heldRx := by
    rw [hsurveyed]
    exact ⟨rfl, rfl, rfl, rfl⟩
  obtain ⟨heq, hquality', hindex', hheld'⟩ := hz
  rw [← heq] at houtputs hpositions hring htaps
  rw [← hquality'] at hquality
  rw [← hindex'] at hindex
  rw [← hheld'] at hheld
  rw [hf]
  generalize (surveyedState s c sl rx).ch c = z at *
  have hout := eqOutput_eq (ch := powerStage z (turnRx (s.ch c) rx) r) htaps.1 htaps.2 hindex
  dsimp only [eqStage, inputPosition]
  rw [hout]
  dsimp only [powerStage]
  rw [houtputs, hpositions, hring, hindex, hheld, hquality]
  exact ⟨rfl, rfl, rfl, rfl, rfl, rfl, rfl, rfl⟩

/-- The flags of the block under assembly after the stages (R90, R163). -/
theorem filteredState_flags : ((filteredState s c sl rx).ch c).eq.flags = { (chosenChannel s c).eq.flags with
    slip := if rx = none then true else (s.ch c).eq.flags.slip
    echoAdapt := if rx ≠ none ∧ (s.ch c).echo.mode ≠ .hold ∧ (s.ch c).echo.guard = 0 then true
      else (s.ch c).eq.flags.echoAdapt } := by
  obtain ⟨_, _, _, _, _, _, hsurveyed⟩ := surveyChange_surveyed s c sl rx
  obtain ⟨-, -, -, -, -, -, hkeeps⟩ :=
    echoedChannel_keeps (receiveStage (chosenChannel s c) rx) (turnInput s c sl) (turnError s c sl rx)
  have hfiltered : ((filteredState s c sl rx).ch c).eq.flags
      = (echoUpdate (receiveStage (chosenChannel s c) rx) (turnInput s c sl) (turnError s c sl rx)).eq.flags := by
    rw [filteredState_ch, hsurveyed, echoedState_ch, ← hkeeps]
    rfl
  have hupdate : ∀ (ch : Channel) (x : Nat → Sample) (r : Sample), (echoUpdate ch x r).eq.flags
      = { ch.eq.flags with echoAdapt := if echoAdapts ch then true else ch.eq.flags.echoAdapt } := by
    intro ch x r
    unfold echoUpdate
    split <;> rfl
  have hreceive : (receiveStage (chosenChannel s c) rx).eq.flags
      = { (chosenChannel s c).eq.flags with slip := if rx = none then true else (s.ch c).eq.flags.slip }
      ∧ (receiveStage (chosenChannel s c) rx).eq.flags.echoAdapt = (s.ch c).eq.flags.echoAdapt := by
    obtain ⟨_, _, _, _, h⟩ := chosenChannel_rest s c
    rw [h]
    cases rx <;> exact ⟨rfl, rfl⟩
  obtain ⟨hflags, hadapt⟩ := hreceive
  rw [hfiltered, hupdate, hadapt, hflags, if_congr (echoAdapts_received s c rx) rfl rfl]

/-- The stages before the survey leave the survey's record. -/
theorem echoedState_survey : ((echoedState s c sl rx).ch c).survey = (s.ch c).survey
    ∧ ((echoedState s c sl rx).ch c).lastResult = (s.ch c).lastResult
    ∧ ((echoedState s c sl rx).ch c).counters.surveysDone = (s.ch c).counters.surveysDone := by
  have hecho : ∀ (ch : Channel) (x : Nat → Sample) (r : Sample), (echoedChannel ch x r).survey = ch.survey
      ∧ (echoedChannel ch x r).lastResult = ch.lastResult
      ∧ (echoedChannel ch x r).counters.surveysDone = ch.counters.surveysDone := by
    intro ch x r
    unfold echoedChannel trainedChannel expiredTraining echoUpdate
    dsimp only
    repeat' split
    all_goals exact ⟨rfl, rfl, rfl⟩
  obtain ⟨_, _, _, _, hchosen⟩ := chosenChannel_rest s c
  obtain ⟨h1, h2, h3⟩ := hecho (receiveStage (chosenChannel s c) rx) (turnInput s c sl) (turnError s c sl rx)
  rw [echoedState_ch, h1, h2, h3, hchosen]
  cases rx <;> exact ⟨rfl, rfl, rfl⟩

/-- The filters and the survey stage leave of the echo state all but D and the far taps. -/
theorem filteredState_echoed : ∃ delay far, ((filteredState s c sl rx).ch c).echo
    = { ((echoedState s c sl rx).ch c).echo with delay := delay, far := far } := by
  obtain ⟨_, _, _, _, delay, far, h⟩ := surveyChange_surveyed s c sl rx
  exact ⟨delay, far, by rw [filteredState_echo, h]⟩

/-! ### The end of the turn -/

theorem stagesChange_keeps {x y : Channel} (h : StagesChange x y) :
    y.quality.pErr = x.quality.pErr ∧ y.eq.taps = x.eq.taps ∧ y.eq.mode = x.eq.mode ∧ y.cursors = x.cursors := by
  obtain ⟨_, _, _, _, _, _, _, _, _, _, _, _, _, _, _, _, _, _, _, _, _, _, _, rfl⟩ := h
  exact ⟨rfl, rfl, rfl, rfl⟩

theorem boundaryChange_keeps {x y : Channel} (h : BoundaryChange x y) :
    (endTurn y).quality.pErr = x.quality.pErr ∧ (endTurn y).eq.taps = x.eq.taps ∧ (endTurn y).eq.mode = x.eq.mode
      ∧ (endTurn y).cursors = x.cursors := by
  obtain ⟨_, _, _, _, _, _, _, _, _, _, _, _, _, _, _, _, _, _, rfl⟩ := h
  exact ⟨rfl, rfl, rfl, rfl⟩

theorem boundaryChange_figures {x y : Channel} (h : BoundaryChange x y) : y.writeIndex = x.writeIndex
    ∧ y.heldRx = x.heldRx ∧ y.quality.pRx = x.quality.pRx ∧ y.quality.pRes = x.quality.pRes
    ∧ y.quality.slipTurns = x.quality.slipTurns ∧ y.echo.guard = x.echo.guard ∧ y.eq.ring = x.eq.ring := by
  obtain ⟨_, _, _, _, _, _, _, _, _, _, _, _, _, _, _, _, _, _, rfl⟩ := h
  exact ⟨rfl, rfl, rfl, rfl, rfl, rfl, rfl⟩

/-- The figures a turn leaves, with a block boundary or without (R44 to R46). -/
theorem turn_figures :
    let t := (turn s c sl rx).ch c
    t.writeIndex = (s.ch c).writeIndex + 1 ∧ t.heldRx = turnRx (s.ch c) rx
      ∧ t.quality.pRx = powerStep (s.ch c).quality.pRx (turnRx (s.ch c) rx)
      ∧ t.quality.pRes = powerStep (s.ch c).quality.pRes (turnError s c sl rx)
      ∧ t.quality.slipTurns
        = (if rx = none then min ((s.ch c).quality.slipTurns + 1) 65535 else (s.ch c).quality.slipTurns)
      ∧ t.echo.guard = (if rx = none then 63 else (s.ch c).echo.guard - 1)
      ∧ t.eq.ring = memWrite (s.ch c).eq.ring ((s.ch c).writeIndex % 1024) (turnError s c sl rx) := by
  intro t
  obtain ⟨y, hy, ht⟩ := turn_ch s c sl rx
  obtain ⟨hindex, hheld, hpRx, hpRes, hslips, hring, -, -⟩ := filteredState_figures s c sl rx
  have hguard : ((filteredState s c sl rx).ch c).echo.guard = if rx = none then 64 else (s.ch c).echo.guard := by
    obtain ⟨_, _, h⟩ := filteredState_echoed s c sl rx
    rw [h]
    exact (echoedState_echo s c sl rx).2.2.2.1
  obtain ⟨h1, h2, h3, h4, h5, h6, h7⟩ := boundaryChange_figures hy
  rw [hindex] at h1
  rw [hheld] at h2
  rw [hpRx] at h3
  rw [hpRes] at h4
  rw [hslips] at h5
  rw [hguard] at h6
  rw [hring] at h7
  rw [show t = endTurn y from ht]
  refine ⟨congrArg (· + 1) h1, h2, h3, h4, h5, ?_, h7⟩
  rw [endTurn_echo]
  dsimp only
  rw [h6]
  cases rx <;> rfl

/-- What no turn changes of its channel: the error figures, the equalizer's taps and mode, and the cursors (R43). -/
theorem turn_keeps : ((turn s c sl rx).ch c).quality.pErr = (s.ch c).quality.pErr
    ∧ ((turn s c sl rx).ch c).eq.taps = (s.ch c).eq.taps ∧ ((turn s c sl rx).ch c).eq.mode = (s.ch c).eq.mode
    ∧ ((turn s c sl rx).ch c).cursors = (s.ch c).cursors := by
  obtain ⟨y, hy, ht⟩ := turn_ch s c sl rx
  obtain ⟨h1, h2, h3, h4⟩ := boundaryChange_keeps hy
  obtain ⟨k1, k2, k3, k4⟩ := stagesChange_keeps (stagesChange_filteredState s c sl rx)
  rw [ht]
  exact ⟨h1.trans k1, h2.trans k2, h3.trans k3, h4.trans k4⟩

/-! ### The slipped turn -/

/-- A guarded boundary leaves the echo state but for the strikes (R101, R103). -/
theorem boundary_guarded {s : State} {c : ChanId} (h : (s.ch c).echo.guard ≠ 0) :
    ((boundary s c).ch c).echo = { (s.ch c).echo with strikes := 0 } := by
  obtain ⟨hecho, -⟩ := completeBlock_echo s c
  have hno : ¬ strikeDue ((completeBlock s c).ch c) = true := fun hd => by
    obtain ⟨-, -, hguard, -⟩ := (strikeDue_iff _).1 hd
    rw [hecho] at hguard
    exact h hguard
  rw [boundary_ch, qualityCheck_ch, divergenceCheck_notDue hno, State.setCh_ch_same]
  exact congrArg (fun e : EchoPart => { e with strikes := 0 }) hecho

/-- No result is applied at a slipped turn (R153). -/
theorem surveyStage_slipped_echo (s : State) (c : ChanId) (x : Nat → Sample) (r : Sample) :
    ((surveyStage s c x r true).ch c).echo = (s.ch c).echo := by
  cases hu : s.dsu.unitOf c with
  | none => rw [surveyStage_idle x r true hu]
  | some i =>
    obtain ⟨k, hk, -⟩ := holds_unitOf hu
    rw [surveyStage_held x r true hu hk]
    cases hp : k.phase with
    | leadIn => rw [surveyTurn_leadIn x r true hp, State.setUnit_ch]
    | window =>
      by_cases hr : k.restarts + 1 < 3
      · rw [surveyTurn_restarts x r hp hr, State.setUnit_ch]
      · obtain ⟨_, _, hg⟩ := endRunning_granted s c i (plainRecord .slipped k.entry (k.restarts + 1))
        rw [surveyTurn_slipped x r hp (Nat.not_lt.1 hr), hg, surveyOver_ch, if_pos rfl]

theorem echo_taps_of_eq {e f : EchoPart} {strikes guard : Nat} (h : e = { f with strikes := strikes, guard := guard }) :
    e.near = f.near ∧ e.far = f.far ∧ e.delay = f.delay := by
  subst h
  exact ⟨rfl, rfl, rfl⟩

/-- A slipped turn leaves the taps and D, and its block is marked (R24). -/
theorem turn_slipped : ((turn s c sl none).ch c).echo.near = (s.ch c).echo.near
    ∧ ((turn s c sl none).ch c).echo.far = (s.ch c).echo.far ∧ ((turn s c sl none).ch c).echo.delay = (s.ch c).echo.delay
    ∧ ((s.ch c).eq.outputs.length + 1 ≠ (s.ch c).params.blockSize → ((turn s c sl none).ch c).eq.flags.slip = true) := by
  have hno : ∀ {P : Prop}, ¬ ((none : Option Sample) ≠ none ∧ P) := fun h => h.1 rfl
  obtain ⟨hnear, hfar, hdelay, hguard, -⟩ := echoedState_echo s c sl none
  rw [if_neg hno] at hnear hfar
  have hecho : ((filteredState s c sl none).ch c).echo = ((echoedState s c sl none).ch c).echo := by
    rw [filteredState_echo]
    exact surveyStage_slipped_echo _ _ _ _
  rw [← hecho] at hnear hfar hdelay hguard
  have hend : ∃ n, ((turn s c sl none).ch c).echo = { ((filteredState s c sl none).ch c).echo with
      strikes := n, guard := ((filteredState s c sl none).ch c).echo.guard - 1 } := by
    rw [turn_stages, State.modCh_ch_same, boundaryIfFull]
    split
    · exact ⟨0, by rw [endTurn_echo, boundary_guarded (by rw [hguard]; exact nofun)]⟩
    · exact ⟨_, endTurn_echo _⟩
  obtain ⟨n, hend⟩ := hend
  obtain ⟨hnear', hfar', hdelay'⟩ := echo_taps_of_eq hend
  refine ⟨hnear'.trans hnear, hfar'.trans hfar, hdelay'.trans hdelay, fun hinside => ?_⟩
  have hflags : ∀ ch : Channel, (endTurn ch).eq = ch.eq := fun _ => rfl
  rw [turn_ch_inside s c sl none hinside, hflags, filteredState_flags]
  simp

end

end Sys2Proof.Proofs
end

section
/-! SUPPORT. What a frame end leaves whatever the order of the work (section 3.3): each OPEN channel's turn, each drain's frame
and each correlator's count, carried from the moment of the work to the frame's end. -/

namespace Sys2Proof.Proofs
open Sys2Proof.Machine Sys2Proof.Safety Sys2Proof.Laws

/-! ### A turn taken -/

/-- What a turn leaves of a channel, grants of other channels' turns apart (R24, R44, R46). -/
structure TurnTaken (rx : Option Sample) (x y : Channel) : Prop where
  place : SamePlace x y
  index : y.writeIndex = x.writeIndex + 1
  held : y.heldRx = turnRx x rx
  pRx : y.quality.pRx = powerStep x.quality.pRx (turnRx x rx)
  pErr : y.quality.pErr = x.quality.pErr
  slips : y.quality.slipTurns = if rx = none then min (x.quality.slipTurns + 1) 65535 else x.quality.slipTurns
  guard : y.echo.guard = if rx = none then 63 else x.echo.guard - 1
  taps : y.eq.taps = x.eq.taps
  mode : y.eq.mode = x.eq.mode
  cursors : y.cursors = x.cursors
  slipped : rx = none → y.echo.near = x.echo.near ∧ y.echo.far = x.echo.far ∧ y.echo.delay = x.echo.delay
    ∧ (x.eq.outputs.length + 1 ≠ x.params.blockSize → y.eq.flags.slip = true)

theorem turnTaken (s : State) (c : ChanId) (sl : SlotId) (rx : Option Sample) :
    TurnTaken rx (s.ch c) ((turn s c sl rx).ch c) := by
  obtain ⟨hindex, hheld, hpRx, -, hslips, hguard, -⟩ := turn_figures s c sl rx
  obtain ⟨hpErr, htaps, hmode, hcursors⟩ := turn_keeps s c sl rx
  refine ⟨turn_place s c sl rx, hindex, hheld, hpRx, hpErr, hslips, hguard, htaps, hmode, hcursors, fun h => ?_⟩
  subst h
  exact turn_slipped s c sl

theorem TurnTaken.granted {rx : Option Sample} {x x' y y' : Channel} (hx : GrantedTo x x') (h : TurnTaken rx x' y)
    (hy : GrantedTo y y') : TurnTaken rx x y' := by
  obtain ⟨_, _, rfl⟩ := hx
  obtain ⟨_, _, rfl⟩ := hy
  obtain ⟨⟨h1, h2, h3, h4⟩, h5, h6, h7, h8, h9, h10, h11, h12, h13, h14⟩ := h
  exact ⟨⟨h1, h2, h3, h4⟩, h5, h6, h7, h8, h9, h10, h11, h12, h13, h14⟩

/-! ### The moment of a turn -/

/-- The moment `a` at which an OPEN channel takes its turn among the work of these channels. -/
structure TurnMoment (rx : Option Sample) (c : ChanId) (sl : SlotId) (cs : List ChanId) (s a t : State) : Prop where
  before : ∃ l, l ⊆ cs ∧ c ∉ l ∧ WorkFrame l s a
  after : ∃ l, l ⊆ cs ∧ c ∉ l ∧ WorkFrame l (turn a c sl rx) t

section
variable {hrd : Option (BitVec 1024)} {cs : List ChanId} {s : State} {c : ChanId} {sl : SlotId}

theorem exists_turnMoment (hnodup : cs.Nodup) (hc : c ∈ cs) (ho : (s.ch c).state = .opened)
    (hsl : (s.ch c).slot = some sl) : ∃ a, TurnMoment (hrd.map fun bits => slotSample bits sl) c sl cs s a
      (cs.foldl (frameWork hrd) s) := by
  obtain ⟨a, ⟨l, hsub, hcl, hbefore⟩, hafter⟩ := exists_moment hrd s hnodup hc
  have hplace := (hbefore.others c hcl).place
  rw [frameWork_opened (hplace.state.trans ho) (hplace.slot.trans hsl)] at hafter
  exact ⟨a, ⟨l, hsub, hcl, hbefore⟩, hafter⟩

theorem turnTaken_fold (hnodup : cs.Nodup) (hc : c ∈ cs) (ho : (s.ch c).state = .opened)
    (hsl : (s.ch c).slot = some sl) :
    TurnTaken (hrd.map fun bits => slotSample bits sl) (s.ch c) ((cs.foldl (frameWork hrd) s).ch c) := by
  obtain ⟨a, ⟨l, -, hcl, hbefore⟩, ⟨m, -, hcm, hafter⟩⟩ := exists_turnMoment (hrd := hrd) hnodup hc ho hsl
  exact (turnTaken a c sl _).granted (hbefore.others c hcl) (hafter.others c hcm)

/-- A slot names one channel (R30). -/
theorem slot_inj (hm : SlotMap s) {d : ChanId} (hc : (s.ch c).slot = some sl) (hd : (s.ch d).slot = some sl) : c = d := by
  have howner := ((hm c).2 sl).1 hc
  rw [((hm d).2 sl).1 hd] at howner
  exact (Option.some.inj howner).symm

/-- An OPEN channel's slot is driven with the sample of its turn, which no other turn overwrites (R44). -/
theorem TurnMoment.drive {rx : Option Sample} {a t : State} (h : TurnMoment rx c sl cs s a t) (hm : SlotMap s)
    (hsl : (s.ch c).slot = some sl) : t.highway.drive[sl.val] = some (sentSample a c) := by
  obtain ⟨⟨l, -, hcl, hbefore⟩, ⟨m, -, hcm, hafter⟩⟩ := h
  have hslot : (a.ch c).slot = some sl := (hbefore.others c hcl).place.slot.trans hsl
  have hcons : SlotMap a → SlotMap (turn a c sl rx) := by
    intro ha
    exact acts_keep (fun _ _ => slotMap_act) (kept_turn sl rx fun hfree => by
      rw [(ha c).1.2 hfree] at hslot
      cases hslot).acts ha
  rw [hafter.drive sl fun d hd _ hsd => ?_, turn_highway]
  · exact Vector.getElem_set_self _
  · have hcd := slot_inj (hcons (hbefore.slots hm)) ((turn_place a c sl rx).slot.trans hslot) hsd
    exact hcm (hcd ▸ hd)

/-- The survey of the channel of a turn before it runs in its correlator. -/
theorem TurnMoment.unit {rx : Option Sample} {a t : State} {i : Fin 4} {k : Correlator}
    (h : TurnMoment rx k.entry.channel sl cs s a t) (hs : SurveyUnits s) (hk : s.dsu.unit i = some k) :
    SurveyUnits a ∧ a.dsu.unit i = some k := by
  obtain ⟨⟨l, -, hcl, hbefore⟩, -⟩ := h
  exact ⟨hbefore.surveys hs, hbefore.units i k hk hcl⟩

/-- A survey that runs on after its channel's turn runs on at the frame's end. -/
theorem TurnMoment.unit_after {rx : Option Sample} {a t : State} {i : Fin 4} {k : Correlator}
    (h : TurnMoment rx c sl cs s a t) (hk : (turn a c sl rx).dsu.unit i = some k) (hc : k.entry.channel = c) :
    t.dsu.unit i = some k := by
  obtain ⟨-, ⟨l, -, hcl, hafter⟩⟩ := h
  exact hafter.units i k hk (hc ▸ hcl)

theorem leadInTurn_entry (k : Correlator) : (leadInTurn k).entry = k.entry := by
  rw [leadInTurn_eq]
  split <;> rfl

theorem unit_set (q : List SurveyEntry) (v : Vector (Option Correlator) 4) (i : Fin 4) (k : Option Correlator) :
    (Dsu.mk q (v.set i.val k)).unit i = k := by
  simp [Dsu.unit]

theorem restartWindow_eq (k : Correlator) :
    restartWindow k = { k with window := 0, sums := List.replicate k.sums.length 0 } := by
  rw [restartWindow, List.map_const']

/-- A lead-in counts the turn, slipped or not (R148). -/
theorem unit_leadIn {rx : Option Sample} {a t : State} {i : Fin 4} {k : Correlator}
    (h : TurnMoment rx k.entry.channel sl cs s a t) (hs : SurveyUnits s) (hk : s.dsu.unit i = some k)
    (hp : k.phase = .leadIn) : t.dsu.unit i = some (leadInTurn k) := by
  obtain ⟨ha, hka⟩ := h.unit hs hk
  refine h.unit_after ?_ (congrArg SurveyEntry.channel (leadInTurn_entry k))
  rw [(turn_leadIn sl rx ha hka hp).1, unit_set]

/-- A window that does not end counts an unslipped turn (R149). -/
theorem unit_counts {v : Sample} {a t : State} {i : Fin 4} {k : Correlator}
    (h : TurnMoment (some v) k.entry.channel sl cs s a t) (hs : SurveyUnits s) (hk : s.dsu.unit i = some k)
    (hp : k.phase = .window) (hw : k.window + 1 ≠ 1024) : ∃ sums : List Int, sums.length = k.sums.length
      ∧ t.dsu.unit i = some { k with window := k.window + 1, sums := sums } := by
  obtain ⟨ha, hka⟩ := h.unit hs hk
  have hturn := turn_dsu_counts sl (some v) ((surveyedState_held sl (some v) ha hka).trans (surveyTurn_counts _ _ hp hw))
  refine ⟨addProducts (turnInput a k.entry.channel sl) (turnError a k.entry.channel sl (some v)) k.entry.lo k.sums,
    addProducts_length _ _ _ _, h.unit_after (k := windowTurn k _ _) ?_ rfl⟩
  rw [hturn.1, unit_set]

/-- A window restarts at a slipped turn, its third restart apart (R153). -/
theorem unit_restarts {a t : State} {i : Fin 4} {k : Correlator}
    (h : TurnMoment none k.entry.channel sl cs s a t) (hs : SurveyUnits s) (hk : s.dsu.unit i = some k)
    (hp : k.phase = .window) (hr : k.restarts < 2) : t.dsu.unit i = some
      { k with window := 0, sums := List.replicate k.sums.length 0, restarts := k.restarts + 1 } := by
  obtain ⟨ha, hka⟩ := h.unit hs hk
  have hturn := turn_dsu_counts sl none ((surveyedState_held sl none ha hka).trans
    (surveyTurn_restarts _ _ hp (Nat.succ_lt_succ hr)))
  have hrestart : ({ restartWindow k with restarts := k.restarts + 1 } : Correlator)
      = { k with window := 0, sums := List.replicate k.sums.length 0, restarts := k.restarts + 1 } := by
    rw [restartWindow_eq]
  rw [← hrestart]
  refine h.unit_after (k := { restartWindow k with restarts := k.restarts + 1 }) ?_ rfl
  rw [hturn.1, unit_set]

theorem surveyedState_slipped {i : Fin 4} {k : Correlator} (hs : SurveyUnits s) (hk : s.dsu.unit i = some k)
    (hp : k.phase = .window) (hr : k.restarts = 2) (sl : SlotId) :
    surveyedState s k.entry.channel sl none
      = (echoedState s k.entry.channel sl none).endRunning k.entry.channel i (recordWithout .slipped k.entry 3) := by
  have h := (surveyedState_held sl none hs hk).trans (surveyTurn_slipped _ _ hp (by omega))
  rwa [hr, recordWithout_eq] at h

/-- At its third restart a survey ends SLIPPED (R153). -/
theorem unit_slipped {a t : State} {i : Fin 4} {k : Correlator}
    (h : TurnMoment none k.entry.channel sl cs s a t) (hs : SurveyUnits s) (hk : s.dsu.unit i = some k)
    (hp : k.phase = .window) (hr : k.restarts = 2) :
    (t.ch k.entry.channel).survey = .noSurvey
      ∧ (t.ch k.entry.channel).lastResult = some (recordWithout .slipped k.entry 3)
      ∧ (t.ch k.entry.channel).counters.surveysDone = (s.ch k.entry.channel).counters.surveysDone + 1
      ∧ ∃ n ∈ t.link.notices, n.channel = chanByte k.entry.channel
          ∧ n.body = .surveyDone (recordWithout .slipped k.entry 3) := by
  obtain ⟨ha, hka⟩ := h.unit hs hk
  obtain ⟨⟨l, -, hcl, hbefore⟩, ⟨m, -, hcm, hafter⟩⟩ := h
  have hend := surveyedState_slipped ha hka hp hr sl
  have hqueue : ∀ e ∈ (echoedState a k.entry.channel sl none).dsu.queue, e.channel ≠ k.entry.channel := by
    rw [echoedState_dsu]
    exact queue_ne_of_unit ha hka
  have hch := (congrArg (·.ch k.entry.channel) hend).trans
    (endRunning_ch_same hqueue i (recordWithout .slipped k.entry 3))
  rw [surveyOver_ch, if_pos rfl] at hch
  obtain ⟨hsurvey, hlast, hdone⟩ := turn_survey a k.entry.channel sl none
  dsimp only at hch
  rw [hch] at hsurvey hlast hdone
  have hturnSurveys : SurveyUnits (turn a k.entry.channel sl none) := by
    have hopen : (a.ch k.entry.channel).state ≠ .free := by
      rw [ha.opened k.entry.channel (by rw [(ha.running k.entry.channel).2 ⟨i, k, hka, rfl⟩]; nofun)]
      nofun
    exact acts_keep (fun _ _ => surveyUnits_act) (kept_turn sl none hopen).acts ha
  have hstill := hafter.still hturnSurveys k.entry.channel hcm hsurvey
  have hcount : (a.ch k.entry.channel).counters = (s.ch k.entry.channel).counters := by
    obtain ⟨_, _, hg⟩ := hbefore.others k.entry.channel hcl
    rw [hg]
  obtain ⟨n, hn, hchannel, hbody⟩ := turn_surveyDone (sl := sl) (rx := none) (by
    rw [hend]
    exact exists_surveyDone _ _ _ _)
  refine ⟨?_, ?_, ?_, n, mem_of_othersStand hafter.notices hn ?_, hchannel, hbody⟩
  · rw [hstill, hsurvey]
  · rw [hstill, hlast]
  · rw [hstill, hdone]
    dsimp only
    rw [(echoedState_survey a k.entry.channel sl none).2.2, hcount]
  · rw [← Bool.not_eq_true, listTouches_iff]
    rintro ⟨d, hd, htouched⟩
    exact hcm (chanByte_inj ((workTouches_channel htouched).symm.trans hchannel) ▸ hd)

/-! ### Drains -/

/-- A DRAINING channel counts the frame, and its drain may end with DRAINED (R48, R50, R52). -/
theorem drainCounted_fold (hs : SurveyUnits s) (hnodup : cs.Nodup) (hc : c ∈ cs) (hd : (s.ch c).state = .draining) :
    (cs.foldl (frameWork hrd) s).ch c = drainCounted (s.ch c)
      ∧ ((s.ch c).drainCount + 1 = 800 → ∃ n ∈ (cs.foldl (frameWork hrd) s).link.notices,
          n.channel = chanByte c ∧ n.body = .drained .timeout (s.ch c).eq.pendingRefs.length) := by
  have hsilent : ∀ {u : State}, SurveyUnits u → (u.ch c).state ≠ .opened → (u.ch c).survey = .noSurvey :=
    fun hu hne => not_imp_comm.1 (hu.opened c) hne
  obtain ⟨a, ⟨l, -, hcl, hbefore⟩, ⟨m, -, hcm, hafter⟩⟩ := exists_moment hrd s hnodup hc
  have ha : a.ch c = s.ch c := hbefore.still hs c hcl (hsilent hs (by rw [hd]; nofun))
  have hda : (a.ch c).state = .draining := by rw [ha, hd]
  have hwork : (frameWork hrd a c).ch c = drainCounted (s.ch c) := by
    rw [frameWork_draining_ch hda, ha]
  have hstate : ((frameWork hrd a c).ch c).state ≠ .opened := by
    rw [hwork, drainCounted_state hd]
    split <;> nofun
  have hunits : SurveyUnits (frameWork hrd a c) :=
    acts_keep (fun _ _ => surveyUnits_act) (acts_frameWork hrd a c) (hbefore.surveys hs)
  have hstill := hafter.still hunits c hcm (hsilent hunits hstate)
  refine ⟨by rw [hstill, hwork], fun hz => ?_⟩
  have hraised : ∃ n ∈ (frameWork hrd a c).link.notices, n.channel = chanByte c
      ∧ n.body = .drained .timeout (s.ch c).eq.pendingRefs.length := by
    rw [frameWork_draining hda, ha, if_pos hz]
    exact exists_mem_placeNotice _ _ _
  obtain ⟨n, hn, hchannel, hbody⟩ := hraised
  refine ⟨n, mem_of_othersStand hafter.notices hn ?_, hchannel, hbody⟩
  rw [← Bool.not_eq_true, listTouches_iff]
  rintro ⟨d, hd, htouched⟩
  exact hcm (chanByte_inj ((workTouches_channel htouched).symm.trans hchannel) ▸ hd)

end

end Sys2Proof.Proofs
end

section
/-! PROOF. FRAME_END and SLIP (R20, R23, R43, R48, R148, R153): the part as the frame end begins it, and what the work of its
channels leaves, in any order. -/

namespace Sys2Proof.Proofs
open Sys2Proof.Machine Sys2Proof.Safety Sys2Proof.Laws

/-! ### Surveys that do not end -/

/-- The survey queue, the idle correlators and every channel's survey state stand. -/
structure SurveysStand (s t : State) : Prop where
  queue : t.dsu.queue = s.dsu.queue
  idle : ∀ i : Fin 4, s.dsu.unit i = none → t.dsu.unit i = none
  survey : ∀ c : ChanId, (t.ch c).survey = (s.ch c).survey

theorem SurveysStand.trans {s t u : State} (h : SurveysStand s t) (k : SurveysStand t u) : SurveysStand s u :=
  ⟨k.queue.trans h.queue, fun i hi => k.idle i (h.idle i hi), fun c => (k.survey c).trans (h.survey c)⟩

theorem surveysStand_turn {s : State} {c : ChanId} (sl : SlotId) {rx : Option Sample}
    (h : ∀ i k, s.dsu.unit i = some k → k.entry.channel = c → ¬ EndsSurvey rx.isNone k) :
    SurveysStand s (turn s c sl rx) := by
  have hdsu := echoedState_dsu s c sl rx
  have hturn : SurveysStand (echoedState s c sl rx) (surveyedState s c sl rx) := by
    obtain hkept | ⟨i, k, k', -, hk, -, hset⟩ := surveyStage_keeps (s := echoedState s c sl rx) (turnInput s c sl)
      (turnError s c sl rx) (by rw [hdsu]; exact h)
    · rw [surveyedState, hkept]
      exact ⟨rfl, fun _ hi => hi, fun _ => rfl⟩
    · rw [surveyedState, hset]
      refine ⟨State.setUnit_queue _ _ _, fun j hj => ?_, fun d => by rw [State.setUnit_ch]⟩
      rw [unit_setUnit]
      split
      · next hji => rw [hji, hk] at hj; cases hj
      · exact hj
  obtain ⟨hqueue, hidle, hsurvey⟩ := hturn
  refine ⟨?_, fun i hi => ?_, fun d => ?_⟩
  · rw [turn_dsu, hqueue, hdsu]
  · rw [turn_dsu]
    exact hidle i (by rw [hdsu, hi])
  · by_cases hd : d = c
    · subst hd
      rw [(turn_survey s d sl rx).1, hsurvey, (echoedState_survey s d sl rx).1]
    · rw [turn_ch_others s c sl rx hd, hsurvey, echoedState_others s c sl rx hd]

theorem surveysStand_work {hrd : Option (BitVec 1024)} {s : State} {c : ChanId}
    (h : ∀ i k, s.dsu.unit i = some k → k.entry.channel = c → ¬ EndsSurvey hrd.isNone k) :
    SurveysStand s (frameWork hrd s c) := by
  obtain ⟨sl, ho, hsl⟩ | hd | hnone := frameWork_cases hrd s c
  · rw [frameWork_opened ho hsl]
    refine surveysStand_turn sl fun i k hk hkc => ?_
    rw [Option.isNone_map]
    exact h i k hk hkc
  · have hset : SurveysStand s (s.setCh c (drainCounted (s.ch c))) := by
      refine ⟨rfl, fun _ hi => hi, fun d => ?_⟩
      rw [ch_setCh, drainCounted]
      split
      · next hdc => subst hdc; split <;> rfl
      · rfl
    rw [frameWork_draining hd]
    split
    · exact ⟨hset.queue, hset.idle, hset.survey⟩
    · exact hset
  · rw [hnone]
    exact ⟨rfl, fun _ hi => hi, fun _ => rfl⟩

/-- While no window ends, no survey is granted (R146). -/
theorem surveysStand_fold {hrd : Option (BitVec 1024)} (cs : List ChanId) : ∀ s : State, cs.Nodup → SurveyUnits s →
    (∀ i k, s.dsu.unit i = some k → k.entry.channel ∈ cs → ¬ EndsSurvey hrd.isNone k) →
    SurveysStand s (cs.foldl (frameWork hrd) s) := by
  induction cs with
  | nil => exact fun s _ _ _ => ⟨rfl, fun _ hi => hi, fun _ => rfl⟩
  | cons c cs ih =>
    intro s hnodup hs hno
    obtain ⟨hc, hnodup⟩ := List.nodup_cons.1 hnodup
    have hwork := workFrame_single hrd s c
    have hfirst : SurveysStand s (frameWork hrd s c) :=
      surveysStand_work fun i k hk hkc => hno i k hk (hkc ▸ .head _)
    have hunits := hwork.surveys hs
    refine hfirst.trans (ih _ hnodup hunits fun i k hk hkc => ?_)
    have hrunning : (s.ch k.entry.channel).survey = .running := by
      rw [← hfirst.survey, hunits.running]
      exact ⟨i, k, hk, rfl⟩
    obtain ⟨j, l, hl, hlc⟩ := (hs.running _).1 hrunning
    have hl' := hwork.units j l hl fun h => hc (by rw [← List.mem_singleton.1 h, hlc]; exact hkc)
    have hij := hunits.unitOnce i j k l hk hl' hlc.symm
    rw [hij, hl'] at hk
    cases hk
    exact hno j k hl (.tail _ hkc)

/-! ### The frame's end -/

/-- The channels with work at a frame end, in the free order (log entry 4). -/
def workingChannels (s : State) : List ChanId := s.channelsInFreeOrder s.activeAtFrame

theorem mem_workingChannels {s : State} {c : ChanId} :
    c ∈ workingChannels s ↔ (s.ch c).state = .opened ∨ (s.ch c).state = .draining := by
  rw [workingChannels, mem_channelsInFreeOrder, State.activeAtFrame, Bool.or_eq_true, decide_eq_true_iff, decide_eq_true_iff]

/-- The part when every channel has done its work (R189; log entry 4). -/
def frameWorked (hrd : Option (BitVec 1024)) (b : State) : State :=
  ((workingChannels b).foldl (frameWork hrd) b).nextChoice.settle

theorem frameWorked_eq (hrd : Option (BitVec 1024)) (b : State) :
    frameWorked hrd b = { (workingChannels b).foldl (frameWork hrd) b with
      choice := b.choice + 1
      link := { ((workingChannels b).foldl (frameWork hrd) b).link with
        attn := attnDue ((workingChannels b).foldl (frameWork hrd) b).link } } := by
  have hrest := (workFrame_fold hrd (workingChannels b) b (nodup_channelsInFreeOrder _ _)).rest
  have hchoice : ((workingChannels b).foldl (frameWork hrd) b).choice = b.choice := by rw [hrest]
  rw [← hchoice]
  rfl

theorem allWorked_frameWorked {hrd : Option (BitVec 1024)} {s b : State} (hch : ∀ c, b.ch c = s.ch c)
    (hchoice : b.choice = s.choice) : AllWorked hrd s b (frameWorked hrd b) := by
  refine ⟨workingChannels b, nodup_channelsInFreeOrder _ _, fun c => by rw [mem_workingChannels, hch], ?_⟩
  rw [frameWorked_eq, hchoice]

/-- What a frame end leaves that began in `b`, whatever the order of the work. -/
structure FrameEnded (hrd : Option (BitVec 1024)) (b t : State) : Prop where
  rest : t = { b with
    highway := { b.highway with drive := t.highway.drive }
    pageMem := t.pageMem
    dsu := t.dsu
    channels := t.channels
    choice := t.choice
    link := { b.link with notices := t.link.notices, dataQueue := t.link.dataQueue, attn := t.link.attn } }
  opened : ∀ (c : ChanId) (sl : SlotId), (b.ch c).state = .opened → (b.ch c).slot = some sl →
    TurnTaken (hrd.map fun bits => slotSample bits sl) (b.ch c) (t.ch c) ∧ ∃ x : Sample, t.highway.drive[sl.val] = some x
  units : ∀ (i : Fin 4) (k : Correlator), b.dsu.unit i = some k → ∃ sl cs a u, t.dsu = u.dsu ∧ (∀ c, t.ch c = u.ch c)
    ∧ t.link.notices = u.link.notices
    ∧ TurnMoment (hrd.map fun bits => slotSample bits sl) k.entry.channel sl cs b a u
  draining : ∀ c : ChanId, (b.ch c).state = .draining → t.ch c = drainCounted (b.ch c)
    ∧ ((b.ch c).drainCount + 1 = 800 → ∃ n ∈ t.link.notices,
        n.channel = chanByte c ∧ n.body = .drained .timeout (b.ch c).eq.pendingRefs.length)
  idle : ∀ c : ChanId, (b.ch c).state = .free ∨ (b.ch c).state = .halted → t.ch c = b.ch c
  undriven : ∀ sl : SlotId, (∀ c : ChanId, b.slotOwner sl = some c → (b.ch c).state ≠ .opened) →
    t.highway.drive[sl.val] = b.highway.drive[sl.val]
  notices : OthersStand (touchedByWork b) b t

theorem frameEnded_worked {b : State} (hm : SlotMap b) (hs : SurveyUnits b) (hrd : Option (BitVec 1024)) :
    FrameEnded hrd b (frameWorked hrd b) := by
  have hnodup : (workingChannels b).Nodup := nodup_channelsInFreeOrder _ _
  have hframe := workFrame_fold hrd (workingChannels b) b hnodup
  have hmem : ∀ {c : ChanId} {sl : SlotId}, (b.ch c).state = .opened → (b.ch c).slot = some sl →
      ∃ a, TurnMoment (hrd.map fun bits => slotSample bits sl) c sl (workingChannels b) b a
        ((workingChannels b).foldl (frameWork hrd) b) := fun ho hsl =>
    exists_turnMoment hnodup (mem_workingChannels.2 (.inl ho)) ho hsl
  have hdrain := fun c (hd : (b.ch c).state = .draining) =>
    drainCounted_fold (hrd := hrd) hs hnodup (mem_workingChannels.2 (.inr hd)) hd
  have htaken := fun c sl (ho : (b.ch c).state = .opened) (hsl : (b.ch c).slot = some sl) =>
    turnTaken_fold (hrd := hrd) hnodup (mem_workingChannels.2 (.inl ho)) ho hsl
  rw [frameWorked_eq]
  generalize (workingChannels b).foldl (frameWork hrd) b = u at *
  refine ⟨?_, fun c sl ho hsl => ⟨htaken c sl ho hsl, ?_⟩, fun i k hk => ?_, hdrain, fun c hc => ?_, fun sl hsl => ?_, ?_⟩
  · rw [hframe.rest]
  · obtain ⟨a, ha⟩ := hmem ho hsl
    exact ⟨_, ha.drive hm hsl⟩
  · have ho : (b.ch k.entry.channel).state = .opened :=
      hs.opened _ (by rw [(hs.running _).2 ⟨i, k, hk, rfl⟩]; nofun)
    obtain ⟨sl, hsl⟩ := Option.ne_none_iff_exists'.1 fun h => by rw [(hm k.entry.channel).1.1 h] at ho; cases ho
    obtain ⟨a, ha⟩ := hmem ho hsl
    exact ⟨sl, workingChannels b, a, u, rfl, fun _ => rfl, rfl, ha⟩
  · have hne : (b.ch c).state ≠ .opened ∧ (b.ch c).state ≠ .draining := by
      obtain h | h := hc <;> rw [h] <;> exact ⟨nofun, nofun⟩
    exact hframe.still hs c (mt mem_workingChannels.1 (not_or.2 hne)) (not_imp_comm.1 (hs.opened c) hne.1)
  · refine hframe.drive sl fun c _ ho hc => hsl c (((hm c).2 sl).1 hc) ho
  · refine othersStand_mono (fun n hn => ?_) hframe.notices
    obtain ⟨c, -, htouched⟩ := listTouches_iff.1 hn
    exact (listTouches_all b) ▸ listTouches_iff.2 ⟨c, List.mem_finRange c, htouched⟩

section
variable {hrd : Option (BitVec 1024)} {b t : State} (h : FrameEnded hrd b t)
include h

/-- The highway but for its drive set stands as the frame end begins it. -/
theorem FrameEnded.highway : t.highway.state = b.highway.state ∧ t.highway.bitCount = b.highway.bitCount
    ∧ t.highway.hfs = b.highway.hfs ∧ t.highway.frameCounter = b.highway.frameCounter
    ∧ t.highway.slotMap = b.highway.slotMap ∧ t.highway.reference = b.highway.reference
    ∧ t.highway.goodRun = b.highway.goodRun := by
  have hhighway : t.highway = { b.highway with drive := t.highway.drive } := (congrArg State.highway h.rest :)
  rw [hhighway]
  exact ⟨rfl, rfl, rfl, rfl, rfl, rfl, rfl⟩

/-- The message link but for its notices and the data queue stands. -/
theorem FrameEnded.link : t.link.requests = b.link.requests ∧ t.link.replies = b.link.replies
    ∧ t.link.outFrame = b.link.outFrame ∧ t.link.rxBytes = b.link.rxBytes ∧ t.link.rxState = b.link.rxState
    ∧ t.link.spiBits = b.link.spiBits ∧ t.link.sdo = b.link.sdo ∧ t.link.filler = b.link.filler := by
  have hlink : t.link = { b.link with
      notices := t.link.notices, dataQueue := t.link.dataQueue, attn := t.link.attn } := (congrArg State.link h.rest :)
  rw [hlink]
  exact ⟨rfl, rfl, rfl, rfl, rfl, rfl, rfl, rfl⟩

/-- The pools, the profiles, the counts, the snapshot and NRST stand. -/
theorem FrameEnded.part : t.freePages = b.freePages ∧ t.freeTaps = b.freeTaps ∧ t.profiles = b.profiles
    ∧ t.lock = b.lock ∧ t.snapshot = b.snapshot ∧ t.device = b.device ∧ t.nrstLow = b.nrstLow :=
  ⟨(congrArg State.freePages h.rest :), (congrArg State.freeTaps h.rest :), (congrArg State.profiles h.rest :),
    (congrArg State.lock h.rest :), (congrArg State.snapshot h.rest :), (congrArg State.device h.rest :),
    (congrArg State.nrstLow h.rest :)⟩

/-- An unmapped slot stays undriven, and a slot of a channel that takes no turn is driven with 0 (R21, R31). -/
theorem FrameEnded.silent (hb : ∀ sl : SlotId, b.highway.drive[sl.val] = if b.slotOwner sl = none then none else some 0)
    (sl : SlotId) : (b.slotOwner sl = none → t.highway.drive[sl.val] = none)
      ∧ ∀ c, b.slotOwner sl = some c → (b.ch c).state ≠ .opened → t.highway.drive[sl.val] = some 0 := by
  refine ⟨fun hnone => ?_, fun c howner hne => ?_⟩
  · rw [h.undriven sl fun c howner => absurd (howner.symm.trans hnone) nofun, hb, if_pos hnone]
  · have hother : ∀ d, b.slotOwner sl = some d → (b.ch d).state ≠ .opened := fun d hd => by
      cases howner.symm.trans hd
      exact hne
    rw [h.undriven sl hother, hb, if_neg (by rw [howner]; nofun)]

end

theorem workingChannels_fixDrive (u : State) : workingChannels u.fixDrive = u.channelsInFreeOrder u.activeAtFrame := by
  have hactive : u.fixDrive.activeAtFrame = u.activeAtFrame := funext fun c => by
    rw [State.activeAtFrame, State.activeAtFrame, State.fixDrive_ch]
  rw [workingChannels, hactive, State.channelsInFreeOrder, State.channelsInFreeOrder, State.fixDrive_choice]

/-- The model's frame end, from the part as it begins. -/
theorem channelsAtFrame_eq {u b : State} (hm : SlotMap b) (hb : u.fixDrive = b) (hrd : Option (BitVec 1024)) :
    (u.channelsAtFrame (hrd.map receiveSamples)).settle = frameWorked hrd b := by
  subst hb
  rw [frameWorked, ← foldl_channelFrame hrd _ _ hm, workingChannels_fixDrive, State.channelsAtFrame]

section
variable {s : State} {hfs : List Bool}

theorem exec_frameEnd {hrd : BitVec 1024} (hhigh : s.nrstLow = false) (hst : s.highway.state = .synced)
    (hcount : s.highway.bitCount + hfs.length = 1024) (hsync : SyncComes s hfs) (hm : SlotMap s) :
    exec (.frameEnd ⟨hfs, hrd⟩) s = .next (frameWorked (some hrd) (frameBegun s)) := by
  change execFrameEnd ⟨hfs, hrd⟩ s = _
  rw [execFrameEnd, unlessHeld_high _ _ hhigh, if_pos ⟨hst, hcount, syncAtLast_of_syncComes hsync⟩, foundHfs_sync hsync,
    State.done_eq]
  exact congrArg _ (channelsAtFrame_eq (u := (atSync s).countFrame) (b := frameBegun s) hm rfl (some hrd))

theorem exec_slip (hhigh : s.nrstLow = false) (hst : s.highway.state = .synced) (hsync : SyncComes s hfs)
    (hlt : s.highway.bitCount + hfs.length < 3072) (hne : s.highway.bitCount + hfs.length ≠ 1024) (hm : SlotMap s) :
    exec (.slip hfs) s = .next (frameWorked none (slipBegun s)) := by
  change execSlip hfs s = _
  rw [execSlip, unlessHeld_high _ _ hhigh, if_pos ⟨hst, hlt, hne, syncAtLast_of_syncComes hsync⟩, foundHfs_sync hsync,
    State.done_eq]
  exact congrArg _ (channelsAtFrame_eq (b := slipBegun s) hm rfl none)

/-- The drive set as a frame end begins it (R21). -/
theorem frameBegun_drive (s : State) (sl : SlotId) :
    (frameBegun s).highway.drive[sl.val] = if s.slotOwner sl = none then none else some 0 := baseDrive_slot s sl

theorem surveyUnits_frameBegun (hs : SurveyUnits s) : SurveyUnits (frameBegun s) :=
  surveyUnits_congr hs rfl (fun _ => rfl) fun _ _ => ⟨rfl, id⟩

/-- The state an accepted frame end leaves (R20, R43, R146). -/
theorem exists_frameEnded {hrd : BitVec 1024} (hhigh : s.nrstLow = false) (hst : s.highway.state = .synced)
    (hcount : s.highway.bitCount + hfs.length = 1024) (hsync : SyncComes s hfs) (hm : SlotMap s) (hs : SurveyUnits s) :
    ∃ t, exec (.frameEnd ⟨hfs, hrd⟩) s = .next t ∧ FrameEnded (some hrd) (frameBegun s) t
      ∧ AllWorked (some hrd) s (frameBegun s) t
      ∧ ((∀ i k, s.dsu.unit i = some k → k.phase = .window → k.window + 1 ≠ 1024) → SurveysStand s t) := by
  refine ⟨_, exec_frameEnd hhigh hst hcount hsync hm,
    frameEnded_worked (b := frameBegun s) hm (surveyUnits_frameBegun hs) _,
    allWorked_frameWorked (fun _ => rfl) rfl, fun hno => ?_⟩
  obtain ⟨hqueue, hidle, hsurvey⟩ := surveysStand_fold (hrd := some hrd) (workingChannels (frameBegun s)) (frameBegun s)
    (nodup_channelsInFreeOrder _ _) (surveyUnits_frameBegun hs) fun i k hk _ hends => hno i k hk hends.1 hends.2
  rw [frameWorked_eq]
  exact ⟨hqueue, hidle, hsurvey⟩

/-- Settles O9: the frame end as it begins, and what the work of its channels leaves in any order. -/
theorem frameEndTakesTurns : Obligations.FrameEndTakesTurns := by
  intro s hfs hrd hhigh hst hcount hsync hm hs
  obtain ⟨t, hexec, h, hworked, hstand⟩ := exists_frameEnded (hrd := hrd) hhigh hst hcount hsync hm hs
  obtain ⟨hstate, hcount, hlevel, hframes, hmap, href, hrun⟩ := h.highway
  obtain ⟨hrequests, hreplies, hout, hbytes, hreceiver, hbits, hsdo, hfiller⟩ := h.link
  obtain ⟨hpages, htaps, hprofiles, hlock, hsnapshot, hdevice, hnrst⟩ := h.part
  have hsilent := h.silent (frameBegun_drive s)
  refine ⟨t, hexec, hstate.trans hst, hcount, hlevel, hframes, hmap, hdevice, fun c sl ho hsl => ?opened,
    fun i k hk => ⟨fun hp => ?leadIn, fun hp hw => ?window⟩, fun hno => ?stand, fun c hd => (h.draining c hd).1,
    fun c hd => (h.draining c hd).2, fun c hc => h.idle c hc, fun sl => (hsilent sl).1, fun sl => (hsilent sl).2,
    hpages, htaps, hprofiles, hlock, hsnapshot, hrequests, hreplies, hout, hbytes, hreceiver, hbits, hsdo, hfiller,
    hnrst.trans hhigh, href, hrun, h.notices, hworked⟩
  case opened =>
    obtain ⟨htaken, hdriven⟩ := h.opened c sl ho hsl
    exact ⟨htaken.place.state.trans ho, htaken.place.slot.trans hsl, htaken.place.params, htaken.place.pages,
      htaken.index, htaken.held, htaken.pRx, htaken.pErr, htaken.slips, htaken.guard, htaken.taps, htaken.mode,
      htaken.cursors, hdriven⟩
  case leadIn =>
    obtain ⟨sl, cs, a, u, hdsu, -, -, hmoment⟩ := h.units i k hk
    rw [hdsu, unit_leadIn hmoment (surveyUnits_frameBegun hs) hk hp, leadInTurn_eq]
  case window =>
    obtain ⟨sl, cs, a, u, hdsu, -, -, hmoment⟩ := h.units i k hk
    rw [hdsu]
    exact unit_counts hmoment (surveyUnits_frameBegun hs) hk hp hw
  case stand =>
    obtain ⟨hqueue, hidle, hsurvey⟩ := hstand hno
    exact ⟨hqueue, hidle, hsurvey⟩

theorem surveyUnits_slipBegun (hs : SurveyUnits s) : SurveyUnits (slipBegun s) :=
  surveyUnits_congr hs rfl (fun _ => rfl) fun _ _ => ⟨rfl, id⟩

/-- The state a slipped frame end leaves (R23). -/
theorem exists_slipEnded (hhigh : s.nrstLow = false) (hst : s.highway.state = .synced) (hsync : SyncComes s hfs)
    (hlt : s.highway.bitCount + hfs.length < 3072) (hne : s.highway.bitCount + hfs.length ≠ 1024) (hm : SlotMap s)
    (hs : SurveyUnits s) : ∃ t, exec (.slip hfs) s = .next t ∧ FrameEnded none (slipBegun s) t
      ∧ AllWorked none s (slipBegun s) t :=
  ⟨_, exec_slip hhigh hst hsync hlt hne hm, frameEnded_worked (b := slipBegun s) hm (surveyUnits_slipBegun hs) _,
    allWorked_frameWorked (fun _ => rfl) rfl⟩

/-- The HIGHWAY notice of the slip stands over the work of the channels, and nothing else is touched (R32, R198). -/
theorem slipNotices {t : State} (h : OthersStand (touchedByWork (slipBegun s)) (slipBegun s) t) :
    (∃ n ∈ t.link.notices, n.channel = 0xFF ∧ n.body = .highway .slip (s.highway.frameCounter + 1))
      ∧ OthersStand (fun n => touchedByWork s n || n.channel == 0xFF && noticeKind n.body == 0x50) s t := by
  refine ⟨?_, othersStand_trans ?_ (othersStand_mono (fun n hn => ?_) h)⟩
  · obtain ⟨n, hn, hchannel, hbody⟩ := exists_mem_placeNotice 0xFF (.highway .slip (s.highway.frameCounter + 1)) s.link.notices
    refine ⟨n, mem_of_othersStand h hn ?_, hchannel, hbody⟩
    rw [← Bool.not_eq_true, ← listTouches_all, listTouches_iff]
    rintro ⟨c, -, htouched⟩
    exact deviceByte_ne c (hchannel.symm.trans (workTouches_channel htouched))
  · refine placeNotice_others (fun n hchannel hkind => ?_) _
    have hkind : noticeKind n.body = 0x50 := hkind
    simp [hchannel, hkind]
  · have hn : touchedByWork s n = true := hn
    rw [hn, Bool.true_or]

/-- Settles O10: the slipped frame end as it begins, what the work of its channels leaves in any order, and the correlator
that the turn of a survey's third restart passes on. -/
theorem slippedFrameEnd : Obligations.SlippedFrameEnd := by
  refine ⟨fun s hfs hhigh hst hsync hlt hne hm hs => ?_, fun s sl i k hs hn hk hp hr => ?_⟩
  · obtain ⟨t, hexec, h, hworked⟩ := exists_slipEnded hhigh hst hsync hlt hne hm hs
    obtain ⟨hstate, hcount, hlevel, hframes, hmap, href, hrun⟩ := h.highway
    obtain ⟨hrequests, hreplies, hout, hbytes, hreceiver, hbits, hsdo, hfiller⟩ := h.link
    obtain ⟨hpages, htaps, hprofiles, hlock, hsnapshot, hdevice, hnrst⟩ := h.part
    obtain ⟨hraised, htouched⟩ := slipNotices h.notices
    have hsilent := h.silent (frameBegun_drive s)
    have hunits := surveyUnits_slipBegun hs
    refine ⟨t, hexec, hstate.trans hst, hcount, hlevel, hframes, hmap, hdevice, hraised, fun c sl ho hsl => ?opened,
      fun i k hk => ⟨fun hp => ?leadIn, fun hp hr => ?restarts, fun hp hr => ?slipped⟩, fun c hd => (h.draining c hd).1,
      fun c hd => (h.draining c hd).2, fun c hc => h.idle c hc, fun sl => (hsilent sl).1, fun sl => (hsilent sl).2,
      hpages, htaps, hprofiles, hlock, hsnapshot, hrequests, hreplies, hout, hbytes, hreceiver, hbits, hsdo, hfiller,
      hnrst.trans hhigh, href, hrun, htouched, hworked⟩
    case opened =>
      obtain ⟨htaken, hdriven⟩ := h.opened c sl ho hsl
      obtain ⟨hnear, hfar, hdelay, hmarked⟩ := htaken.slipped rfl
      exact ⟨htaken.place.state.trans ho, htaken.place.slot.trans hsl, htaken.place.params, htaken.place.pages,
        htaken.index, htaken.held, htaken.pRx, htaken.slips, hnear, hfar, hdelay, htaken.guard, hmarked, htaken.taps,
        hdriven⟩
    case leadIn =>
      obtain ⟨sl, cs, a, u, hdsu, -, -, hmoment⟩ := h.units i k hk
      rw [hdsu, unit_leadIn hmoment hunits hk hp, leadInTurn_eq]
    case restarts =>
      obtain ⟨sl, cs, a, u, hdsu, -, -, hmoment⟩ := h.units i k hk
      rw [hdsu]
      exact unit_restarts hmoment hunits hk hp hr
    case slipped =>
      obtain ⟨sl, cs, a, u, -, hch, hnotices, hmoment⟩ := h.units i k hk
      rw [hch, hnotices]
      exact unit_slipped (s := slipBegun s) hmoment hunits hk hp hr
  · refine turn_dsu_ends sl none hn (x := (echoedState s k.entry.channel sl none).ch k.entry.channel)
      (r := recordWithout .slipped k.entry 3) ?_
    rw [State.setCh_ch_self]
    exact surveyedState_slipped hs hk hp hr sl

end

end Sys2Proof.Proofs
end

section
/-! PROOF. The history store (R44, R63 to R65, R80, R120): ring addressing, and the sample a turn drives, which is the one it
writes. -/

namespace Sys2Proof.Proofs
open Sys2Proof.Machine Sys2Proof.Safety Sys2Proof.Laws

/-! ### Ring addressing -/

/-- The ring position of an index (R63). -/
def ringPosition (pages : List Nat) (i : Int) : Nat := (i % (ringLength pages : Int)).toNat

theorem ringPosition_lt {pages : List Nat} (h : pages ≠ []) (i : Int) : ringPosition pages i < 64 * pages.length := by
  have hlength : 0 < pages.length := List.length_pos_of_ne_nil h
  have hring : ringLength pages = 64 * pages.length := rfl
  have hlt := Int.emod_lt_of_pos i (show (0 : Int) < (ringLength pages : Int) by omega)
  unfold ringPosition
  omega

theorem ringPosition_cast {pages : List Nat} (h : pages ≠ []) (i : Int) :
    (ringPosition pages i : Int) = i % (ringLength pages : Int) := by
  have hlength : 0 < pages.length := List.length_pos_of_ne_nil h
  have hring : ringLength pages = 64 * pages.length := rfl
  exact Int.toNat_of_nonneg (Int.emod_nonneg i (by omega))

/-- An index that differs from a ring position by whole rings lies there (R63, R65). -/
theorem ringPosition_of_dvd {pages : List Nat} {p : Nat} {i : Int} (hp : p < 64 * pages.length)
    (hdvd : ((64 * pages.length : Nat) : Int) ∣ i - p) : ringPosition pages i = p := by
  have hmod : i % ((64 * pages.length : Nat) : Int) = (p : Int) % ((64 * pages.length : Nat) : Int) :=
    Int.emod_eq_emod_iff_emod_sub_eq_zero.2 (Int.emod_eq_zero_of_dvd hdvd)
  change (i % ((64 * pages.length : Nat) : Int)).toNat = p
  rw [hmod, Int.emod_eq_of_lt (Int.natCast_nonneg p) (Int.ofNat_lt.2 hp), Int.toNat_natCast]

theorem historyAddress_eq (pages : List Nat) (i : Int) :
    historyAddress pages i = 64 * pages.getD (ringPosition pages i / 64) 0 + ringPosition pages i % 64 := rfl

/-- An address lies in a page of the channel's list. -/
theorem historyAddress_page {pages : List Nat} (h : pages ≠ []) (i : Int) : historyAddress pages i / 64 ∈ pages := by
  have hlt := ringPosition_lt h i
  have hentry : ringPosition pages i / 64 < pages.length := by omega
  have hpage : historyAddress pages i / 64 = pages[ringPosition pages i / 64] := by
    rw [historyAddress_eq, List.getD_eq_getElem _ _ hentry]
    omega
  rw [hpage]
  exact List.getElem_mem hentry

/-- Two channels' lists without a page in common have no address in common. -/
theorem historyAddress_ne {pages pages' : List Nat} (h : pages ≠ []) (h' : pages' ≠ [])
    (hdisjoint : ∀ p ∈ pages, p ∉ pages') (i j : Int) : historyAddress pages i ≠ historyAddress pages' j := fun heq =>
  hdisjoint _ (historyAddress_page h i) (heq ▸ historyAddress_page h' j)

/-- Within one ring an address tells the ring position. -/
theorem ringPosition_inj {pages : List Nat} (h : pages ≠ []) (hnodup : pages.Nodup) {i j : Int}
    (heq : historyAddress pages i = historyAddress pages j) : ringPosition pages i = ringPosition pages j := by
  have hi := ringPosition_lt h i
  have hj := ringPosition_lt h j
  have hi' : ringPosition pages i / 64 < pages.length := by omega
  have hj' : ringPosition pages j / 64 < pages.length := by omega
  rw [historyAddress_eq, historyAddress_eq, List.getD_eq_getElem _ _ hi', List.getD_eq_getElem _ _ hj'] at heq
  have hentry := (hnodup.getElem_inj_iff (hi := hi') (hj := hj')).1 (by omega)
  omega

/-- The turns of less than one ring have addresses of their own (R64). -/
theorem historyAddress_turns {pages : List Nat} (hnodup : pages.Nodup) {i j k n : Nat} (hk : k < 64 * pages.length)
    (hj : j ≤ k) (hn : n ≤ k) (hne : j ≠ n) :
    historyAddress pages ((i + j : Nat) : Int) ≠ historyAddress pages ((i + n : Nat) : Int) := by
  intro heq
  have hpages : pages ≠ [] := by rintro rfl; simp at hk
  have hpos := congrArg (Nat.cast (R := Int)) (ringPosition_inj hpages hnodup heq)
  rw [ringPosition_cast hpages, ringPosition_cast hpages] at hpos
  have hdvd : ((64 * pages.length : Nat) : Int) ∣ ((i + j : Nat) : Int) - ((i + n : Nat) : Int) :=
    Int.dvd_of_emod_eq_zero (Int.emod_eq_emod_iff_emod_sub_eq_zero.1 hpos)
  have hzero : ((i + j : Nat) : Int) - ((i + n : Nat) : Int) = 0 :=
    Int.eq_zero_of_abs_lt_dvd hdvd (by rw [abs_lt]; omega)
  omega

/-- The samples written at the turns of less than one ring all read back (R64, R65). -/
theorem memRead_turns {m : SampleMem} {pages : List Nat} (i : Nat) (x : Nat → Sample) (hm : memWf m = true)
    (hnodup : pages.Nodup) : ∀ k : Nat, k < 64 * pages.length →
      let written := (List.range (k + 1)).foldl (fun m j => historyWrite m pages (i + j) (x (i + j))) m
      memWf written = true
        ∧ ∀ j : Nat, j ≤ k → memRead written (historyAddress pages ((i + j : Nat) : Int)) = x (i + j) := by
  intro k
  induction k with
  | zero =>
    refine fun _ => ⟨memWf_write _ _ hm, fun j hj => ?_⟩
    obtain rfl := Nat.le_zero.1 hj
    exact (memRead_write _ _ _ hm).trans (if_pos rfl)
  | succ k ih =>
    intro hk
    obtain ⟨hwf, hread⟩ := ih (by omega)
    dsimp only
    rw [List.range_succ, List.foldl_append, List.foldl_cons, List.foldl_nil]
    refine ⟨memWf_write _ _ hwf, fun j hj => ?_⟩
    rw [historyWrite, memRead_write _ _ _ hwf]
    by_cases hlast : j = k + 1
    · rw [hlast, if_pos rfl]
    · rw [if_neg (historyAddress_turns hnodup hk hj (Nat.le_refl _) hlast)]
      exact hread j (by omega)

/-! ### The sample of a turn -/

/-- No page is in two channels' lists (R58, R59). -/
theorem pages_apart {s : State} (h : PagePlaces s) {c d : ChanId} (hcd : c ≠ d) :
    ∀ p ∈ (s.ch c).pages, p ∉ (s.ch d).pages := by
  intro p hc hd
  have hplace := h.1 p
  have hpair : (s.ch c).pages.count p + (s.ch d).pages.count p ≤ ∑ e : ChanId, (s.ch e).pages.count p := by
    rw [← Finset.sum_pair (f := fun e => (s.ch e).pages.count p) hcd]
    exact Finset.sum_le_sum_of_subset (Finset.subset_univ _)
  have hc' := List.count_pos_iff.2 hc
  have hd' := List.count_pos_iff.2 hd
  split at hplace <;> omega

/-- What the channels' work leaves in the pages, and the sample each OPEN channel drives (R44, R80). -/
theorem frameWorked_memory {b : State} (hrd : Option (BitVec 1024)) (hm : SlotMap b) (hp : PagePlaces b)
    (hwf : memWf b.pageMem = true) (hpages : ∀ c : ChanId, (b.ch c).state = .opened → (b.ch c).pages ≠ []) :
    (∀ (c : ChanId) (sl : SlotId), (b.ch c).state = .opened → (b.ch c).slot = some sl →
      (frameWorked hrd b).highway.drive[sl.val]
        = some (historyRead (frameWorked hrd b).pageMem (b.ch c).pages (b.ch c).writeIndex 0))
    ∧ ∀ a : Nat,
        (∀ c : ChanId, (b.ch c).state = .opened → a ≠ historyAddress (b.ch c).pages ((b.ch c).writeIndex : Int)) →
        memRead (frameWorked hrd b).pageMem a = memRead b.pageMem a := by
  have hnodup : (workingChannels b).Nodup := nodup_channelsInFreeOrder _ _
  rw [frameWorked_eq]
  refine ⟨fun c sl ho hsl => ?_, fun a ha => ?_⟩
  · obtain ⟨a, hmoment⟩ := exists_turnMoment (hrd := hrd) hnodup (mem_workingChannels.2 (.inl ho)) ho hsl
    have hdrive := hmoment.drive hm hsl
    obtain ⟨⟨l, -, hcl, hbefore⟩, ⟨m, -, hcm, hafter⟩⟩ := hmoment
    obtain ⟨_, _, hac⟩ := hbefore.others c hcl
    have hac' : (a.ch c).pages = (b.ch c).pages ∧ (a.ch c).writeIndex = (b.ch c).writeIndex := by
      rw [hac]
      exact ⟨rfl, rfl⟩
    obtain ⟨hpagesEq, hindexEq⟩ := hac'
    have hturn := workFrame_turn (s := a) (c := c) (sl := sl) (by rw [hac]; exact ho) (by rw [hac]; exact hsl)
      (hrd.map fun bits => slotSample bits sl)
    have hwfa := (hbefore.memory hwf).1
    obtain ⟨-, hread⟩ := hafter.memory (hturn.memory hwfa).1
    have hstays := hread (historyAddress (b.ch c).pages ((b.ch c).writeIndex : Int)) fun d hd hod => by
      obtain ⟨hoa, hpa⟩ := hturn.places d hod
      obtain ⟨hob, hpb⟩ := hbefore.places d hoa
      have hcd : c ≠ d := fun h => hcm (h ▸ hd)
      rw [hpa, hpb]
      exact historyAddress_ne (hpages c ho) (hpages d hob) (pages_apart hp hcd) _ _
    have hlag : ((b.ch c).writeIndex : Int) - ((0 : Nat) : Int) = (b.ch c).writeIndex := Int.sub_zero _
    dsimp only
    rw [hdrive, historyRead, hlag, hstays, turn_pageMem, historyWrite, hpagesEq, hindexEq, memRead_write _ _ _ hwfa,
      if_pos rfl]
  · exact ((workFrame_fold hrd (workingChannels b) b hnodup).memory hwf).2 a fun c _ ho => ha c ho

theorem frameEnd_of_exec {s t : State} {hfs : List Bool} {hrd : BitVec 1024} (hhigh : s.nrstLow = false) (hm : SlotMap s)
    (h : exec (.frameEnd ⟨hfs, hrd⟩) s = .next t) : t = frameWorked (some hrd) (frameBegun s) := by
  have hrow : execFrameEnd ⟨hfs, hrd⟩ s = .next t := h
  rw [execFrameEnd, unlessHeld_high _ _ hhigh] at hrow
  split at hrow
  · next hguard =>
    rw [exec_frameEnd hhigh hguard.1 hguard.2.1 ((syncAtLast_iff _ _).1 hguard.2.2) hm] at h
    cases h
    rfl
  · cases hrow

theorem slip_of_exec {s t : State} {hfs : List Bool} (hhigh : s.nrstLow = false) (hm : SlotMap s)
    (h : exec (.slip hfs) s = .next t) : t = frameWorked none (slipBegun s) := by
  have hrow : execSlip hfs s = .next t := h
  rw [execSlip, unlessHeld_high _ _ hhigh] at hrow
  split at hrow
  · next hguard =>
    obtain ⟨hst, hlt, hne, hsync⟩ := hguard
    rw [exec_slip hhigh hst ((syncAtLast_iff _ _).1 hsync) hlt hne hm] at h
    cases h
    rfl
  · cases hrow

/-- Settles O12: the frame end's work, and the addressing of the two rings. -/
theorem drivenSampleIsInHistory : Obligations.DrivenSampleIsInHistory := by
  refine ⟨fun s t hfs hrd hhigh hm hp hcanonical hpages hexec => ?_, fun pages page p i hlt hdvd hpage => ?_,
    fun _ _ _ _ => rfl, fun m pages i k x hm hnodup hk => ?_, fun ring p k q hq hdvd => ?_, fun _ => rfl,
    fun m a b v hm => memRead_write a b v hm⟩
  · obtain h | h := hexec
    · rw [frameEnd_of_exec hhigh hm h]
      exact frameWorked_memory (b := frameBegun s) (some hrd) hm hp hcanonical.1 hpages
    · rw [slip_of_exec hhigh hm h]
      exact frameWorked_memory (b := slipBegun s) none hm hp hcanonical.1 hpages
  · rw [historyAddress_eq, ringPosition_of_dvd hlt hdvd, List.getD_eq_getElem?_getD, hpage]
    rfl
  · intro written j hj
    have hindex : ((i + k : Nat) : Int) - (j : Int) = ((i + (k - j) : Nat) : Int) := by omega
    have hturn : i + k - j = i + (k - j) := by omega
    rw [historyRead, hindex, hturn]
    exact (memRead_turns i x hm hnodup k hk).2 (k - j) (Nat.sub_le _ _)
  · have hposition : (((p : Int) - (k : Int)) % 1024).toNat = q := by omega
    rw [inputRead, hposition]

end Sys2Proof.Proofs
end

section
/-! SUPPORT. What the stages of a turn, and the turn, leave of the part (R43): its slot's drive and one history sample apart
every slot and page, other kinds of notice, the data queue, and, while no survey ends, every other channel and correlator. -/

namespace Sys2Proof.Proofs
open Sys2Proof.Machine Sys2Proof.Safety Sys2Proof.Laws

section
variable (s : State) (c : ChanId) (sl : SlotId) (rx : Option Sample)

/-! ### The data queue -/

theorem transmitStage_dataQueue : (transmitStage s c sl).link.dataQueue = s.link.dataQueue := by
  rw [transmitStage_eq, chosen]
  cases (chooseSample (s.ch c) (s.dsu.probing c)).notice <;> rfl

theorem echoStage_dataQueue (x : Nat → Sample) (r : Sample) : (echoStage s c x r).link.dataQueue = s.link.dataQueue := by
  unfold echoStage State.trainStep State.trainingAtZero State.expireTraining
  dsimp only
  repeat' split
  all_goals rfl

theorem surveyStage_dataQueue (x : Nat → Sample) (r : Sample) (slipped : Bool) :
    (surveyStage s c x r slipped).link.dataQueue = s.link.dataQueue := by
  obtain h | ⟨i, k, -, -, ⟨k', h⟩ | ⟨y, record, -, h⟩⟩ := surveyStage_cases s c x r slipped
  · rw [h]
  · rw [h]
    rfl
  · rw [h, endRunning_link]
    rfl

theorem filteredState_dataQueue : (filteredState s c sl rx).link.dataQueue = s.link.dataQueue := by
  have hmod : ∀ (t : State) (f : Channel → Channel), (t.modCh c f).link = t.link := fun _ _ => rfl
  rw [filteredState, hmod, surveyedState, surveyStage_dataQueue, echoedState, echoStage_dataQueue, receivedState, hmod,
    transmitStage_dataQueue]

/-! ### Notices by stage -/

theorem transmitStage_notices : OthersStand (ofKinds c [0x40]) s (transmitStage s c sl) := by
  rw [transmitStage_eq]
  exact (own_chosen s c).notices

/-- Training ends in this turn (R96). -/
def EndsTraining (ch : Channel) : Prop := ch.echo.mode = .train ∧ ch.echo.trainCount ≤ 1 ∧ ch.echo.extension = none

/-- A turn that does not end training raises no TRAIN_DONE. -/
theorem echoStage_notices {s : State} {c : ChanId} (h : ¬ EndsTraining (s.ch c)) (x : Nat → Sample) (r : Sample) :
    OthersStand (ofKinds c []) s (echoStage s c x r) := by
  have hupdate : (s.modCh c fun ch => echoUpdate ch x r).ch c = echoUpdate (s.ch c) x r := State.modCh_ch_same _ _ _
  have hkept : (echoUpdate (s.ch c) x r).echo.trainCount = (s.ch c).echo.trainCount
      ∧ (echoUpdate (s.ch c) x r).echo.extension = (s.ch c).echo.extension := by
    unfold echoUpdate
    split <;> exact ⟨rfl, rfl⟩
  have hcounted : ((s.modCh c fun ch => echoUpdate ch x r).modCh c countTraining).ch c
      = countTraining (echoUpdate (s.ch c) x r) := by rw [State.modCh_ch_same, hupdate]
  unfold echoStage State.trainStep State.trainingAtZero
  dsimp only
  rw [hcounted]
  split
  · next hmode =>
    split
    · next hzero =>
      split
      · next hext =>
        have hzero : (echoUpdate (s.ch c) x r).echo.trainCount - 1 = 0 := hzero
        have hext : (echoUpdate (s.ch c) x r).echo.extension = none := hext
        rw [hkept.1] at hzero
        exact absurd ⟨hmode, by omega, hkept.2.symm.trans hext⟩ h
      · rfl
    · rfl
  · rfl

/-- A survey of this channel ends in a turn, slipped or not (R150, R153). -/
def EndsSurveyOf (s : State) (c : ChanId) (rx : Option Sample) : Prop :=
  ∃ i k, s.dsu.unit i = some k ∧ k.entry.channel = c ∧ k.phase = .window
    ∧ (if rx = none then 2 ≤ k.restarts else k.window + 1 = 1024)

theorem endsSurveyOf_of {s : State} {c : ChanId} {rx : Option Sample} {i : Fin 4} {k : Correlator}
    (hk : s.dsu.unit i = some k) (hc : k.entry.channel = c) (h : EndsSurvey rx.isNone k) : EndsSurveyOf s c rx := by
  refine ⟨i, k, hk, hc, h.1, ?_⟩
  cases rx with
  | none => exact h.2
  | some v => exact h.2

/-- While no survey of its channel ends, the survey stage at most counts in the channel's own correlator (R148, R149). -/
theorem surveyedState_cases {s : State} {c : ChanId} {rx : Option Sample} (h : ¬ EndsSurveyOf s c rx) (sl : SlotId) :
    surveyedState s c sl rx = echoedState s c sl rx ∨ ∃ i k k', s.dsu.unit i = some k ∧ k.entry.channel = c
      ∧ surveyedState s c sl rx = (echoedState s c sl rx).setUnit i (some k') := by
  have hdsu := echoedState_dsu s c sl rx
  obtain hkept | ⟨i, k, k', -, hk, hc, hset⟩ := surveyStage_keeps (s := echoedState s c sl rx) (turnInput s c sl)
    (turnError s c sl rx) (slipped := rx.isNone) fun i k hk hc hends => h (endsSurveyOf_of (by rw [← hdsu, hk]) hc hends)
  · exact .inl hkept
  · exact .inr ⟨i, k, k', by rw [← hdsu, hk], hc, hset⟩

theorem surveyedState_notices {s : State} {c : ChanId} {rx : Option Sample} (h : ¬ EndsSurveyOf s c rx) (sl : SlotId) :
    OthersStand (ofKinds c []) (echoedState s c sl rx) (surveyedState s c sl rx) := by
  obtain hkept | ⟨i, k, k', -, -, hset⟩ := surveyedState_cases h sl
  · rw [hkept]
    exact othersStand_refl _ _
  · rw [hset]
    rfl

/-- The notices the stages leave, from those the echo stage and the survey stage leave. -/
theorem filteredState_notices {train survey kinds : List Byte}
    (htrain : OthersStand (ofKinds c train) (receivedState s c sl rx) (echoedState s c sl rx))
    (hsurvey : OthersStand (ofKinds c survey) (echoedState s c sl rx) (surveyedState s c sl rx))
    (h0 : 0x40 ∈ kinds) (h1 : train ⊆ kinds) (h2 : survey ⊆ kinds) :
    OthersStand (ofKinds c kinds) s (filteredState s c sl rx) := by
  have hsent := othersStand_mono (ofKinds_mono (List.cons_subset.2 ⟨h0, List.nil_subset _⟩)) (transmitStage_notices s c sl)
  have hreceived := othersStand_mono (ofKinds_mono (List.nil_subset kinds)) (own_received s c sl rx).notices
  have hfiltered := othersStand_mono (ofKinds_mono (List.nil_subset kinds)) (own_filtered s c sl rx).notices
  exact othersStand_trans (othersStand_trans (othersStand_trans (othersStand_trans hsent hreceived)
    (othersStand_mono (ofKinds_mono h1) htrain)) (othersStand_mono (ofKinds_mono h2) hsurvey)) hfiltered

theorem turn_notices_of {kinds : List Byte} (h : OthersStand (ofKinds c kinds) s (filteredState s c sl rx))
    (h3 : [0x43, 0x46] ⊆ kinds) : OthersStand (ofKinds c kinds) s (turn s c sl rx) :=
  othersStand_trans h (othersStand_mono (ofKinds_mono h3) (own_turnEnd s c sl rx).notices)

theorem receivedState_training : EndsTraining ((receivedState s c sl rx).ch c) ↔ EndsTraining (s.ch c) := by
  rw [EndsTraining, EndsTraining, receivedState_echo]

/-! ### The part -/

/-- What the stages of a turn, or the turn, leave of the part (R43). -/
structure PartStands (w : State) : Prop where
  sample : ∃ out : Sample, w.highway = { s.highway with drive := s.highway.drive.set sl.val (some out) }
    ∧ w.pageMem = historyWrite s.pageMem (s.ch c).pages (s.ch c).writeIndex out
  rest : ∃ dsu channels notices dataQueue, w = { s with
    highway := w.highway, pageMem := w.pageMem, dsu := dsu, channels := channels
    link := { s.link with notices := notices, dataQueue := dataQueue } }
  alone : ¬ EndsSurveyOf s c rx →
    (∀ d : ChanId, d ≠ c → w.ch d = s.ch d) ∧ w.dsu.queue = s.dsu.queue
    ∧ (∀ i : Fin 4, (∀ k, s.dsu.unit i = some k → k.entry.channel ≠ c) → w.dsu.unit i = s.dsu.unit i)
    ∧ (w.ch c).survey = (s.ch c).survey ∧ (w.ch c).lastResult = (s.ch c).lastResult
    ∧ (w.ch c).counters.surveysDone = (s.ch c).counters.surveysDone
    ∧ OthersStand (ofKinds c [0x40, 0x42, 0x43, 0x46]) s w
  notices : OthersStand (ofKinds c turnKinds) s w
  training : ¬ EndsTraining (s.ch c) → OthersStand (ofKinds c [0x40, 0x43, 0x44, 0x46]) s w

/-- The survey unit and the other channels after the survey stage, while no survey of the channel ends (R43). -/
theorem surveyedState_alone {s : State} {c : ChanId} {rx : Option Sample} (h : ¬ EndsSurveyOf s c rx) (sl : SlotId) :
    (∀ d : ChanId, d ≠ c → (surveyedState s c sl rx).ch d = s.ch d)
      ∧ (surveyedState s c sl rx).dsu.queue = s.dsu.queue
      ∧ (∀ i : Fin 4, (∀ k, s.dsu.unit i = some k → k.entry.channel ≠ c) →
          (surveyedState s c sl rx).dsu.unit i = s.dsu.unit i)
      ∧ (surveyedState s c sl rx).ch c = (echoedState s c sl rx).ch c := by
  have hdsu := echoedState_dsu s c sl rx
  obtain hkept | ⟨i, k, k', hk, hc, hset⟩ := surveyedState_cases h sl
  · rw [hkept, hdsu]
    exact ⟨fun d hd => echoedState_others s c sl rx hd, rfl, fun _ _ => rfl, rfl⟩
  · rw [hset]
    refine ⟨fun d hd => ?_, ?_, fun j hj => ?_, State.setUnit_ch _ _ _ _⟩
    · rw [State.setUnit_ch, echoedState_others s c sl rx hd]
    · rw [State.setUnit_queue, hdsu]
    · rw [State.setUnit_unit_ne _ _ _ _ fun hji => hj k (by rw [hji, hk]) hc, hdsu]

/-- The survey's record after the stages and after the turn is that after the survey stage. -/
theorem filteredState_survey : ((filteredState s c sl rx).ch c).survey = ((surveyedState s c sl rx).ch c).survey
    ∧ ((filteredState s c sl rx).ch c).lastResult = ((surveyedState s c sl rx).ch c).lastResult
    ∧ ((filteredState s c sl rx).ch c).counters.surveysDone = ((surveyedState s c sl rx).ch c).counters.surveysDone := by
  obtain ⟨-, h2, h3, h4⟩ := filter_keeps ((surveyedState s c sl rx).ch c) (turnRx (s.ch c) rx) (turnError s c sl rx)
  rw [filteredState_ch, h2, h3, h4]
  exact ⟨rfl, rfl, rfl⟩

theorem partStands_filtered : PartStands s c sl rx (filteredState s c sl rx) := by
  have hreceived := (own_received s c sl rx).local.mono (List.nil_subset [0x42, 0x44])
  have hechoed := (own_echoed s c sl rx).local.mono (more := [0x42, 0x44]) (by decide)
  have hsurveyed := (local_surveyed s c sl rx).mono (more := [0x42, 0x44]) (by decide)
  have hfiltered := (own_filtered s c sl rx).local.mono (List.nil_subset [0x42, 0x44])
  have hlocal := ((hreceived.trans hechoed).trans hsurveyed).trans hfiltered
  have hall := own_echoed s c sl rx
  refine ⟨⟨sentSample s c, ?_, ?_⟩, ?_, fun hno => ?_, ?_, fun hno => ?_⟩
  · rw [hlocal.highway, transmitStage_eq]
  · rw [hlocal.pageMem, transmitStage_eq]
  · have hrest := hlocal.rest
    rw [transmitStage_eq, (own_chosen s c).rest] at hrest
    exact ⟨_, _, _, _, hrest.trans (by rw [hlocal.highway, hlocal.pageMem, transmitStage_eq])⟩
  · obtain ⟨hothers, hqueue, hunits, hch⟩ := surveyedState_alone hno sl
    obtain ⟨hsurvey, hlast, hdone⟩ := filteredState_survey s c sl rx
    obtain ⟨hsurvey', hlast', hdone'⟩ := echoedState_survey s c sl rx
    have hdsu := (own_filtered s c sl rx).dsu
    refine ⟨fun d hd => ?_, ?_, fun i hi => ?_, ?_, ?_, ?_, ?_⟩
    · rw [(own_filtered s c sl rx).others d hd, hothers d hd]
    · rw [hdsu, hqueue]
    · rw [hdsu, hunits i hi]
    · rw [hsurvey, hch, hsurvey']
    · rw [hlast, hch, hlast']
    · rw [hdone, hch, hdone']
    · exact filteredState_notices s c sl rx hall.notices (surveyedState_notices hno sl) (by decide) (by decide) (by decide)
  · exact filteredState_notices s c sl rx hall.notices (local_surveyed s c sl rx).notices (by decide) (by decide) (by decide)
  · exact filteredState_notices s c sl rx (echoStage_notices (mt (receivedState_training s c sl rx).1 hno) _ _)
      (local_surveyed s c sl rx).notices (by decide) (by decide) (by decide)

theorem partStands_turn : PartStands s c sl rx (turn s c sl rx) := by
  obtain ⟨-, -, halone, hnotices, htraining⟩ := partStands_filtered s c sl rx
  have hend := own_turnEnd s c sl rx
  refine ⟨⟨sentSample s c, turn_highway s c sl rx, turn_pageMem s c sl rx⟩, ⟨_, _, _, _, turn_rest s c sl rx⟩,
    fun hno => ?_, turn_notices s c sl rx, fun hno => turn_notices_of s c sl rx (htraining hno) (by decide)⟩
  obtain ⟨hothers, hqueue, hunits, hsurvey, hlast, hdone, hkinds⟩ := halone hno
  obtain ⟨hsurvey', hlast', hdone'⟩ := turn_survey s c sl rx
  obtain ⟨hsurvey'', hlast'', hdone''⟩ := filteredState_survey s c sl rx
  refine ⟨fun d hd => ?_, ?_, fun i hi => ?_, ?_, ?_, ?_, turn_notices_of s c sl rx hkinds (by decide)⟩
  · rw [hend.others d hd, hothers d hd]
  · rw [hend.dsu, hqueue]
  · rw [hend.dsu, hunits i hi]
  · rw [hsurvey', ← hsurvey'', hsurvey]
  · rw [hlast', ← hlast'', hlast]
  · rw [hdone', ← hdone'', hdone]

end

end Sys2Proof.Proofs
end

section
/-! SUPPORT. The filters of a turn in the statements' words: the taps that adapt (R7, R90), D and the far taps where a survey's
result is applied (R16, R151), and the train count step (R95 to R97). -/

namespace Sys2Proof.Proofs
open Sys2Proof.Machine Sys2Proof.Safety Sys2Proof.Laws

/-! ### The taps -/

/-- The near taps after the turn's update (R7). -/
def turnNear (s : State) (c : ChanId) (sl : SlotId) (rx : Option Sample) : List Sample :=
  if rx ≠ none ∧ (s.ch c).echo.mode ≠ .hold ∧ (s.ch c).echo.guard = 0 then
    adaptFrom (turnError s c sl rx)
      (14 + if (s.ch c).echo.mode = .track then (s.ch c).params.echoTrackShift else (s.ch c).params.echoTrainShift)
      (turnInput s c sl) 0 (s.ch c).echo.near
  else (s.ch c).echo.near

/-- The far taps after the turn's update (R7). -/
def turnFar (s : State) (c : ChanId) (sl : SlotId) (rx : Option Sample) : List Sample :=
  if rx ≠ none ∧ (s.ch c).echo.mode ≠ .hold ∧ (s.ch c).echo.guard = 0 then
    adaptFrom (turnError s c sl rx)
      (14 + if (s.ch c).echo.mode = .track then (s.ch c).params.echoTrackShift else (s.ch c).params.echoTrainShift)
      (turnInput s c sl) (s.ch c).echo.delay (s.ch c).echo.far
  else (s.ch c).echo.far

section
variable (s : State) (c : ChanId) (sl : SlotId) (rx : Option Sample)

theorem echoedState_taps : ((echoedState s c sl rx).ch c).echo.near = turnNear s c sl rx
    ∧ ((echoedState s c sl rx).ch c).echo.far = turnFar s c sl rx := by
  obtain ⟨hnear, hfar, -⟩ := echoedState_echo s c sl rx
  exact ⟨hnear, hfar⟩

/-! ### The survey's result -/

/-- The turn ends the window of this correlator's survey, and its result is found and applied (R150, R151). -/
def Applies (k : Correlator) : Prop :=
  rx ≠ none ∧ k.entry.channel = c ∧ k.phase = .window ∧ k.window + 1 = 1024 ∧ k.entry.apply = true
    ∧ (s.ch c).params.surveyMinConf
      ≤ (surveyFigures k.entry.lo
          (addProducts (turnInput s c sl) (turnError s c sl rx) k.entry.lo k.sums)).confidence

/-- D and the far taps after the turn's survey stage (R16, R151). -/
structure SurveyedEcho (e : EchoPart) : Prop where
  kept : (∀ i k, s.dsu.unit i = some k → ¬ Applies s c sl rx k) →
    e.delay = (s.ch c).echo.delay ∧ e.far = turnFar s c sl rx
  applied : SurveyUnits s → ∀ i k, s.dsu.unit i = some k → Applies s c sl rx k →
    e.delay = min (s.ch c).params.maxDelay ((surveyFigures k.entry.lo
        (addProducts (turnInput s c sl) (turnError s c sl rx) k.entry.lo k.sums)).peakLag - 8)
      ∧ e.far = List.replicate (s.ch c).echo.far.length 0

theorem windowApplied_unapplied {ch : Channel} {k : Correlator}
    (h : ¬ (ch.params.surveyMinConf ≤ (surveyFigures k.entry.lo k.sums).confidence ∧ k.entry.apply = true)) :
    windowApplied ch k = ch := by
  rw [windowApplied_echo, if_neg h, if_neg h]

theorem windowApplied_applied {ch : Channel} {k : Correlator}
    (h : ch.params.surveyMinConf ≤ (surveyFigures k.entry.lo k.sums).confidence ∧ k.entry.apply = true) :
    (windowApplied ch k).echo.delay = min ch.params.maxDelay ((surveyFigures k.entry.lo k.sums).peakLag - 8)
      ∧ (windowApplied ch k).echo.far = List.replicate ch.echo.far.length 0 := by
  rw [windowApplied_echo, if_pos h, if_pos h]
  exact ⟨rfl, rfl⟩

/-- The end of a window leaves the echo state as the result leaves it. -/
theorem endWindow_echo (s : State) (c : ChanId) (i : Fin 4) (k : Correlator) :
    ((s.endWindow c i k).ch c).echo = (windowApplied (s.ch c) k).echo := by
  rw [endWindow_eq]
  obtain ⟨_, _, hg⟩ :=
    endRunning_granted (s.setCh c (windowApplied (s.ch c) k)) c i (windowRecord (s.ch c) k)
  rw [hg, surveyOver_ch, if_pos rfl, State.setCh_ch_same]

/-- Unless a result is applied the survey stage leaves the echo state. -/
theorem surveyedState_echo_kept (h : ∀ i k, s.dsu.unit i = some k → ¬ Applies s c sl rx k) :
    ((surveyedState s c sl rx).ch c).echo = ((echoedState s c sl rx).ch c).echo := by
  cases rx with
  | none => exact surveyStage_slipped_echo _ _ _ _
  | some v =>
    rw [surveyedState]
    cases hu : (echoedState s c sl (some v)).dsu.unitOf c with
    | none => rw [surveyStage_idle _ _ _ hu]
    | some i =>
      obtain ⟨k, hk, hc⟩ := holds_unitOf hu
      rw [surveyStage_held _ _ _ hu hk]
      cases hp : k.phase with
      | leadIn => rw [surveyTurn_leadIn _ _ _ hp, State.setUnit_ch]
      | window =>
        by_cases hw : k.window + 1 = 1024
        · have hno := h i k (by rw [← echoedState_dsu s c sl (some v), hk])
          obtain ⟨-, -, hparams, -⟩ := echoedState_far s c sl (some v)
          have hends := surveyTurn_ends (s := echoedState s c sl (some v)) (c := c) (i := i) (turnInput s c sl)
            (turnError s c sl (some v)) hp hw
          have hunapplied : ¬ (((echoedState s c sl (some v)).ch c).params.surveyMinConf
              ≤ (surveyFigures k.entry.lo
                (addProducts (turnInput s c sl) (turnError s c sl (some v)) k.entry.lo k.sums)).confidence
              ∧ k.entry.apply = true) := fun ⟨hfound, happly⟩ =>
            hno ⟨nofun, hc, hp, hw, happly, hparams ▸ hfound⟩
          refine (congrArg (fun t : State => (t.ch c).echo) hends).trans ?_
          rw [endWindow_echo, windowApplied_unapplied (k := windowTurn k _ _) hunapplied]
        · refine (congrArg (fun t : State => (t.ch c).echo) (surveyTurn_counts _ _ hp hw)).trans ?_
          rw [State.setUnit_ch]

theorem surveyedState_surveyed : SurveyedEcho s c sl rx ((surveyedState s c sl rx).ch c).echo := by
  obtain ⟨hdelay, hfar, hparams, -⟩ := echoedState_far s c sl rx
  refine ⟨fun h => ?_, fun hs i k hk happlies => ?_⟩
  · rw [surveyedState_echo_kept s c sl rx h, (echoedState_taps s c sl rx).2, hdelay]
    exact ⟨rfl, rfl⟩
  · obtain ⟨hrx, hc, hp, hw, happly, hfound⟩ := happlies
    subst hc
    obtain ⟨v, rfl⟩ := Option.ne_none_iff_exists'.1 hrx
    have hends := (surveyedState_held sl (some v) hs hk).trans (surveyTurn_ends _ _ hp hw)
    have happlied : ((echoedState s k.entry.channel sl (some v)).ch k.entry.channel).params.surveyMinConf
        ≤ (surveyFigures k.entry.lo (addProducts (turnInput s k.entry.channel sl)
          (turnError s k.entry.channel sl (some v)) k.entry.lo k.sums)).confidence ∧ k.entry.apply = true :=
      ⟨hparams.symm ▸ hfound, happly⟩
    obtain ⟨hdelay', hfar'⟩ := windowApplied_applied (k := windowTurn k _ _) happlied
    rw [hends, endWindow_echo, hdelay', hfar', hparams, hfar]
    exact ⟨rfl, rfl⟩

theorem surveyedEcho_congr {e f : EchoPart} (hdelay : f.delay = e.delay) (hfar : f.far = e.far)
    (h : SurveyedEcho s c sl rx e) : SurveyedEcho s c sl rx f := by
  refine ⟨fun hno => ?_, fun hs i k hk happlies => ?_⟩
  · rw [hdelay, hfar]
    exact h.kept hno
  · rw [hdelay, hfar]
    exact h.applied hs i k hk happlies

/-! ### The train count step -/

/-- The training figures of a context. -/
structure Trained (a : Channel) (mode : EchoMode) (count : Nat) (extension : Option Nat)
    (checkpoint : Option Machine.Checkpoint) (done : Count) (thenMode : EchoMode) : Prop where
  mode : a.echo.mode = mode
  count : a.echo.trainCount = count
  extension : a.echo.extension = extension
  checkpoint : a.echo.checkpoint = checkpoint
  done : a.counters.trainCompletions = done
  thenMode : a.echo.thenMode = thenMode

/-- The train count step from `ch`, with the taps adapted (R95 to R97). -/
structure TrainStepped (ch : Channel) (near far : List Sample) (a : Channel) : Prop where
  other : ch.echo.mode ≠ .train → Trained a ch.echo.mode ch.echo.trainCount ch.echo.extension ch.echo.checkpoint
    ch.counters.trainCompletions ch.echo.thenMode
  falls : ch.echo.mode = .train → 2 ≤ ch.echo.trainCount →
    Trained a .train (ch.echo.trainCount - 1) ch.echo.extension ch.echo.checkpoint ch.counters.trainCompletions
      ch.echo.thenMode
  expires : ch.echo.mode = .train → ch.echo.trainCount = 1 → ch.echo.extension = none →
    Trained a ch.echo.thenMode 0 none
      (if ch.params.autoCheckpoint then some ⟨near, far, ch.echo.delay⟩ else ch.echo.checkpoint)
      (ch.counters.trainCompletions + 1) ch.echo.thenMode
  extends_ : ∀ n, ch.echo.mode = .train → ch.echo.trainCount = 1 → ch.echo.extension = some n →
    Trained a .train n none ch.echo.checkpoint ch.counters.trainCompletions ch.echo.thenMode

theorem Trained.congr {a b : Channel} {mode thenMode : EchoMode} {count : Nat} {extension : Option Nat}
    {checkpoint : Option Machine.Checkpoint} {done : Count} (he : b.echo.mode = a.echo.mode ∧ b.echo.trainCount = a.echo.trainCount
      ∧ b.echo.extension = a.echo.extension ∧ b.echo.checkpoint = a.echo.checkpoint ∧ b.echo.thenMode = a.echo.thenMode)
    (hd : b.counters.trainCompletions = a.counters.trainCompletions)
    (h : Trained a mode count extension checkpoint done thenMode) :
    Trained b mode count extension checkpoint done thenMode := by
  obtain ⟨h1, h2, h3, h4, h5⟩ := he
  exact ⟨h1.trans h.mode, h2.trans h.count, h3.trans h.extension, h4.trans h.checkpoint, hd.trans h.done,
    h5.trans h.thenMode⟩

theorem TrainStepped.congr {ch a b : Channel} {near far : List Sample} (he : b.echo.mode = a.echo.mode
      ∧ b.echo.trainCount = a.echo.trainCount ∧ b.echo.extension = a.echo.extension
      ∧ b.echo.checkpoint = a.echo.checkpoint ∧ b.echo.thenMode = a.echo.thenMode)
    (hd : b.counters.trainCompletions = a.counters.trainCompletions) (h : TrainStepped ch near far a) :
    TrainStepped ch near far b :=
  ⟨fun hm => (h.other hm).congr he hd, fun hm hn => (h.falls hm hn).congr he hd,
    fun hm hn hx => (h.expires hm hn hx).congr he hd, fun n hm hn hx => (h.extends_ n hm hn hx).congr he hd⟩

/-- The update of the taps leaves the training figures. -/
theorem echoUpdate_training (ch : Channel) (x : Nat → Sample) (r : Sample) :
    Trained (echoUpdate ch x r) ch.echo.mode ch.echo.trainCount ch.echo.extension ch.echo.checkpoint
      ch.counters.trainCompletions ch.echo.thenMode ∧ (echoUpdate ch x r).echo.delay = ch.echo.delay
      ∧ (echoUpdate ch x r).params = ch.params := by
  unfold echoUpdate
  split <;> exact ⟨⟨rfl, rfl, rfl, rfl, rfl, rfl⟩, rfl, rfl⟩

theorem trainStepped_echoed (ch : Channel) (x : Nat → Sample) (r : Sample) :
    TrainStepped ch (echoedChannel ch x r).echo.near (echoedChannel ch x r).echo.far (echoedChannel ch x r) := by
  obtain ⟨hnear, hfar, -⟩ := echoedChannel_keeps ch x r
  obtain ⟨htrained, hdelay, hparams⟩ := echoUpdate_training ch x r
  rw [hnear, hfar]
  unfold echoedChannel
  generalize echoUpdate ch x r = u at htrained hdelay hparams
  obtain ⟨hmode, hcount, hext, hcheck, hdone, hthen⟩ := htrained
  refine ⟨fun hm => ?_, fun hm hn => ?_, fun hm hn hx => ?_, fun n hm hn hx => ?_⟩
  · rw [if_neg hm]
    exact ⟨hmode, hcount, hext, hcheck, hdone, hthen⟩
  · rw [if_pos hm, trainedChannel, if_neg (by omega)]
    exact ⟨hmode.trans hm, congrArg (· - 1) hcount, hext, hcheck, hdone, hthen⟩
  · rw [if_pos hm, trainedChannel, if_pos (by omega), hext, hx]
    dsimp only
    rw [expiredTraining_eq]
    refine ⟨hthen, rfl, hext.trans hx, ?_, congrArg (· + 1) hdone, hthen⟩
    exact if_congr (iff_of_eq (congrArg (fun p : Profile => p.autoCheckpoint = true) hparams))
      (congrArg some (congrArg (Machine.Checkpoint.mk _ _) hdelay)) hcheck
  · rw [if_pos hm, trainedChannel, if_pos (by omega), hext, hx]
    exact ⟨hmode.trans hm, rfl, rfl, hcheck, hdone, hthen⟩

/-- The training figures of the context that stage 4 takes. -/
theorem receivedChannel_training : (receiveStage (chosenChannel s c) rx).params = (s.ch c).params
    ∧ (receiveStage (chosenChannel s c) rx).counters.trainCompletions = (s.ch c).counters.trainCompletions := by
  obtain ⟨_, _, _, _, h⟩ := chosenChannel_rest s c
  rw [h]
  cases rx <;> exact ⟨rfl, rfl⟩

theorem trainStepped_echoedState :
    TrainStepped (s.ch c) (turnNear s c sl rx) (turnFar s c sl rx) ((echoedState s c sl rx).ch c) := by
  obtain ⟨hnear, hfar⟩ := echoedState_taps s c sl rx
  have hecho := receiveStage_chosen_echo s c rx
  obtain ⟨hparams, hdone⟩ := receivedChannel_training s c rx
  have h := trainStepped_echoed (receiveStage (chosenChannel s c) rx) (turnInput s c sl) (turnError s c sl rx)
  rw [← echoedState_ch, hnear, hfar] at h
  obtain ⟨h1, h2, h3, h4⟩ := h
  rw [hecho, hdone] at h1 h2 h4
  rw [hecho, hdone, hparams] at h3
  exact ⟨h1, h2, h3, h4⟩

/-- The counters of stages 5 to 7, but for the surveys done. -/
theorem filteredState_training : ((filteredState s c sl rx).ch c).counters.trainCompletions
    = ((echoedState s c sl rx).ch c).counters.trainCompletions := by
  obtain ⟨_, _, _, _, _, _, h⟩ := surveyChange_surveyed s c sl rx
  rw [filteredState_ch, (filter_keeps _ _ _).2.2.2, h]

theorem training_of_survey {e f : EchoPart} {delay : Nat} {far : List Sample}
    (h : e = { f with delay := delay, far := far }) : e.mode = f.mode ∧ e.trainCount = f.trainCount
      ∧ e.extension = f.extension ∧ e.checkpoint = f.checkpoint ∧ e.thenMode = f.thenMode := by
  subst h
  exact ⟨rfl, rfl, rfl, rfl, rfl⟩

theorem training_of_boundary {e f : EchoPart} {strikes guard : Nat}
    (h : e = { f with strikes := strikes, guard := guard }) : e.mode = f.mode ∧ e.trainCount = f.trainCount
      ∧ e.extension = f.extension ∧ e.checkpoint = f.checkpoint ∧ e.thenMode = f.thenMode := by
  subst h
  exact ⟨rfl, rfl, rfl, rfl, rfl⟩

theorem trainStepped_filtered :
    TrainStepped (s.ch c) (turnNear s c sl rx) (turnFar s c sl rx) ((filteredState s c sl rx).ch c) := by
  obtain ⟨_, _, hecho⟩ := filteredState_echoed s c sl rx
  exact (trainStepped_echoedState s c sl rx).congr (training_of_survey hecho) (filteredState_training s c sl rx)

theorem boundaryChange_completions {x y : Channel} (h : BoundaryChange x y) :
    (endTurn y).counters.trainCompletions = x.counters.trainCompletions := by
  obtain ⟨_, _, _, _, _, _, _, _, _, _, _, _, _, _, _, _, _, _, rfl⟩ := h
  rfl

/-- Without a boundary, or with one that has no guard to check, the train count step stands at the turn's end. -/
theorem trainStepped_turn
    (h : (s.ch c).eq.outputs.length + 1 ≠ (s.ch c).params.blockSize ∨ (s.ch c).params.divergenceGuard = false) :
    TrainStepped (s.ch c) (turnNear s c sl rx) (turnFar s c sl rx) ((turn s c sl rx).ch c) := by
  obtain ⟨n, hecho⟩ := turn_echo s c sl rx h
  obtain ⟨y, hy, ht⟩ := turn_ch s c sl rx
  exact (trainStepped_filtered s c sl rx).congr (training_of_boundary hecho) (by rw [ht, boundaryChange_completions hy])

/-! ### TRAIN_DONE -/

/-- TRAIN_DONE waits after the training has expired (R96, R118). -/
theorem echoedState_trainDone (hm : (s.ch c).echo.mode = .train) (hn : (s.ch c).echo.trainCount = 1)
    (hx : (s.ch c).echo.extension = none) : ∃ n ∈ (echoedState s c sl rx).link.notices, n.channel = chanByte c
      ∧ n.body = .trainDone (s.ch c).echo.thenMode (s.ch c).params.autoCheckpoint := by
  have hecho := receivedState_echo s c sl rx
  have hparams : ((receivedState s c sl rx).ch c).params = (s.ch c).params := by
    rw [receivedState_ch]
    exact (receivedChannel_training s c rx).1
  have htrain : ((receivedState s c sl rx).ch c).echo.mode = .train := by rw [hecho, hm]
  obtain ⟨htrained, -, hkept⟩ := echoUpdate_training ((receivedState s c sl rx).ch c) (turnInput s c sl) (turnError s c sl rx)
  rw [hecho, hm, hn, hx] at htrained
  have hupdate : ((receivedState s c sl rx).modCh c fun ch => echoUpdate ch (turnInput s c sl) (turnError s c sl rx)).ch c
      = echoUpdate ((receivedState s c sl rx).ch c) (turnInput s c sl) (turnError s c sl rx) := State.modCh_ch_same _ _ _
  generalize htaken : echoUpdate ((receivedState s c sl rx).ch c) (turnInput s c sl) (turnError s c sl rx) = u
    at htrained hkept hupdate
  have hcounted : (((receivedState s c sl rx).modCh c fun ch =>
      echoUpdate ch (turnInput s c sl) (turnError s c sl rx)).modCh c countTraining).ch c = countTraining u := by
    rw [State.modCh_ch_same, hupdate]
  have hzero : (countTraining u).echo.trainCount = 0 := by
    change u.echo.trainCount - 1 = 0
    rw [htrained.count]
  have hnone : (countTraining u).echo.extension = none := htrained.extension
  rw [echoedState, echoStage, if_pos htrain, State.trainStep, hcounted, if_pos hzero, State.trainingAtZero, hcounted, hnone, expireTraining_eq, hcounted, show (countTraining u).echo.thenMode = (s.ch c).echo.thenMode from htrained.thenMode,
    show (countTraining u).params = (s.ch c).params from hkept.trans hparams]
  exact exists_mem_placeNotice _ _ _

theorem trainDone_filtered (hm : (s.ch c).echo.mode = .train) (hn : (s.ch c).echo.trainCount = 1)
    (hx : (s.ch c).echo.extension = none) : ∃ n ∈ (filteredState s c sl rx).link.notices, n.channel = chanByte c
      ∧ n.body = .trainDone (s.ch c).echo.thenMode (s.ch c).params.autoCheckpoint := by
  obtain ⟨n, hmem, hc, hb⟩ := echoedState_trainDone s c sl rx hm hn hx
  have hnot : ∀ kinds : List Byte, (0x42 : Byte) ∉ kinds → ofKinds c kinds n = false := fun kinds hk => by
    rw [Bool.eq_false_iff]
    intro ht
    rw [ofKinds_iff, hb] at ht
    exact hk ht.2
  have hsurveyed := mem_of_othersStand (local_surveyed s c sl rx).notices hmem (hnot _ (by decide))
  exact ⟨n, mem_of_othersStand (own_filtered s c sl rx).notices hsurveyed (hnot _ (by decide)), hc, hb⟩

theorem trainDone_turn (hm : (s.ch c).echo.mode = .train) (hn : (s.ch c).echo.trainCount = 1)
    (hx : (s.ch c).echo.extension = none) : ∃ n ∈ (turn s c sl rx).link.notices, n.channel = chanByte c
      ∧ n.body = .trainDone (s.ch c).echo.thenMode (s.ch c).params.autoCheckpoint := by
  obtain ⟨n, hmem, hc, hb⟩ := trainDone_filtered s c sl rx hm hn hx
  refine ⟨n, mem_of_othersStand (own_turnEnd s c sl rx).notices hmem ?_, hc, hb⟩
  rw [Bool.eq_false_iff]
  intro ht
  rw [ofKinds_iff, hb] at ht
  exact absurd ht.2 (by simp [noticeKind])

end

end Sys2Proof.Proofs
end

section
/-! SUPPORT. The transmit sample of a turn (R17, R76 to R84): what the choice leaves of the channel, and that the later stages
leave the transmit part, the slot's drive, TX_LOW and the block's flags as the choice sets them. -/

namespace Sys2Proof.Proofs
open Sys2Proof.Machine Sys2Proof.Safety Sys2Proof.Laws

/-! ### The choice -/

/-- A channel is in a probe phase when a correlator runs its probing survey (R84). -/
theorem probing_iff {s : State} (hs : SurveyUnits s) (c : ChanId) : s.dsu.probing c = true
    ↔ ∃ i k, s.dsu.unit i = some k ∧ k.entry.channel = c ∧ k.entry.probe = true := by
  have hheld : ∀ {i : Fin 4} {k : Correlator}, s.dsu.unit i = some k → k.entry.channel = c →
      s.dsu.probing c = k.entry.probe := fun hk hc => by
    rw [Dsu.probing, ← hc, unitOf_holds hs hk]
    dsimp only
    rw [hk]
  constructor
  · intro h
    cases hu : s.dsu.unitOf c with
    | none =>
      rw [Dsu.probing, hu] at h
      cases h
    | some i =>
      obtain ⟨k, hk, hc⟩ := holds_unitOf hu
      exact ⟨i, k, hk, hc, (hheld hk hc).symm.trans h⟩
  · rintro ⟨i, k, hk, hc, hprobe⟩
    rw [hheld hk hc, hprobe]

section
variable {ch : Channel}

theorem chooseSample_low (hst : ch.tx.state = .priming) (hlow : ch.tx.queue.length < ch.params.txStart) :
    chooseSample ch false = ⟨ch, 0, none⟩ := by
  have hnot : ¬ ch.params.txStart ≤ ch.level := Nat.not_le.2 hlow
  simp [chooseSample, hst, hnot]

theorem chooseSample_queue (h : ch.tx.state = .running ∨ ch.params.txStart ≤ ch.tx.queue.length) :
    chooseSample ch false = chooseQueue ch := by
  obtain ⟨hp, -⟩ | ⟨-, hst, hlt, -⟩ | ⟨-, -, hq⟩ := chooseSample_cases ch false
  · cases hp
  · obtain hrun | hstart := h
    · rw [hst] at hrun
      cases hrun
    · exact absurd hlt (Nat.not_lt.2 hstart)
  · exact hq

/-- The sample of a channel whose queue holds one: the head leaves (R78, R81, R82). -/
theorem popSample_eq (ch : Channel) (rest : List Sample) :
    (popSample ch rest).channel.tx = { ch.tx with
        queue := rest
        state := .running
        lowArm := if rest.length < ch.params.txLow ∧ ch.tx.lowArm = .armed then .disarmed else ch.tx.lowArm
        highArm := if rest.length ≤ ch.params.txHigh then .armed else ch.tx.highArm }
      ∧ (popSample ch rest).channel.counters = ch.counters ∧ (popSample ch rest).channel.eq = ch.eq
      ∧ (popSample ch rest).notice
        = if rest.length < ch.params.txLow ∧ ch.tx.lowArm = .armed then some (.txLow rest.length) else none := by
  have hfalls : (decide (rest.length < ch.params.txLow) && decide (ch.tx.lowArm = .armed)) = true
      ↔ rest.length < ch.params.txLow ∧ ch.tx.lowArm = .armed := by simp
  refine ⟨?_, rfl, rfl, if_congr hfalls rfl rfl⟩
  rw [← if_congr hfalls rfl rfl]
  rfl

/-- The block flags the choice sets (R79, R84). -/
theorem chooseSample_flags (probing : Bool) (h : ch.tx.state = .running ∨ 1 ≤ ch.params.txStart) :
    ((chooseSample ch probing).channel.eq.flags.starved = true
        ↔ ch.eq.flags.starved = true ∨ probing = false ∧ ch.tx.state = .running ∧ ch.tx.queue = [])
      ∧ ((chooseSample ch probing).channel.eq.flags.probe = true ↔ ch.eq.flags.probe = true ∨ probing = true) := by
  obtain ⟨rfl, hc⟩ | ⟨rfl, hst, -, hc⟩ | ⟨rfl, hstart, hc⟩ := chooseSample_cases ch probing <;> rw [hc]
  · simp [chooseProbe]
  · simp [hst]
  · cases hq : ch.tx.queue with
    | nil =>
      have hrun : ch.tx.state = .running := by
        obtain hrun | hone := h
        · exact hrun
        · refine hstart.resolve_right fun hle => ?_
          have hle : ch.params.txStart ≤ ch.tx.queue.length := hle
          rw [hq, List.length_nil] at hle
          omega
      rw [chooseQueue_nil hq]
      simp [starve, hrun]
    | cons x rest =>
      obtain ⟨-, -, heq, -⟩ := popSample_eq ch rest
      rw [chooseQueue_cons hq]
      dsimp only
      rw [heq]
      simp

end

/-! ### After the choice -/

/-- Notices that nothing touched stand among those asked for. -/
theorem othersStand_filter {touched p : Notice → Bool} {s t : State} (h : OthersStand touched s t)
    (hp : ∀ n, p n = true → touched n = false) : t.link.notices.filter p = s.link.notices.filter p := by
  have hsub : ∀ l : List Notice, (l.filter fun n => !touched n).filter p = l.filter p := fun l => by
    rw [List.filter_filter]
    refine List.filter_congr fun n _ => ?_
    cases hpn : p n with
    | true => rw [hp n hpn]; rfl
    | false => rfl
  rw [← hsub t.link.notices, h, hsub]

/-- The waiting TX_LOW notices of a channel. -/
def lows (c : ChanId) (w : State) : List Notice :=
  w.link.notices.filter fun n => n.channel == chanByte c && noticeKind n.body == 0x40

section
variable {s : State} {c : ChanId} (sl : SlotId) (rx : Option Sample)

/-- Later stages raise no TX_LOW. -/
theorem turn_lows : lows c (turn s c sl rx) = lows c (chosen s c) := by
  have hsent : (transmitStage s c sl).link = (chosen s c).link := by rw [transmitStage_eq]
  have hlater := (local_turn s c sl rx).notices
  rw [lows, othersStand_filter hlater fun n hn => ?_, hsent, lows]
  rw [Bool.eq_false_iff]
  intro ht
  rw [Bool.and_eq_true] at hn
  have hkind := (ofKinds_iff.1 ht).2
  rw [eq_of_beq hn.2] at hkind
  exact absurd hkind (by decide)

theorem chosen_silent (h : (chooseSample (s.ch c) (s.dsu.probing c)).notice = none) : lows c (chosen s c) = lows c s := by
  rw [chosen, h]
  rfl

theorem chosen_lows {level : Nat} (h : (chooseSample (s.ch c) (s.dsu.probing c)).notice = some (.txLow level)) :
    ∃ n ∈ lows c (chosen s c), n.body = .txLow level := by
  obtain ⟨n, hn, hc, hb⟩ := exists_mem_placeNotice (chanByte c) (.txLow level) s.link.notices
  refine ⟨n, List.mem_filter.2 ⟨?_, by simp [hc, hb, noticeKind]⟩, hb⟩
  rw [chosen, h]
  exact hn

/-- Stages 3 and 4 leave the transmit part and the starved samples. -/
theorem echoedState_tx (s : State) (c : ChanId) : ((echoedState s c sl rx).ch c).tx = (chosenChannel s c).tx
    ∧ ((echoedState s c sl rx).ch c).counters.txSamplesStarved = (chosenChannel s c).counters.txSamplesStarved := by
  have hecho : ∀ (ch : Channel) (x : Nat → Sample) (r : Sample), (echoedChannel ch x r).tx = ch.tx
      ∧ (echoedChannel ch x r).counters.txSamplesStarved = ch.counters.txSamplesStarved := by
    intro ch x r
    unfold echoedChannel trainedChannel expiredTraining echoUpdate
    dsimp only
    repeat' split
    all_goals exact ⟨rfl, rfl⟩
  obtain ⟨h1, h2⟩ := hecho (receiveStage (chosenChannel s c) rx) (turnInput s c sl) (turnError s c sl rx)
  rw [echoedState_ch, h1, h2]
  cases rx <;> exact ⟨rfl, rfl⟩

/-- The survey stage restarts no probe of its own channel: what it grants is another's (R146). -/
theorem surveyedState_tx (hs : SurveyUnits s) :
    ((surveyedState s c sl rx).ch c).tx = ((echoedState s c sl rx).ch c).tx := by
  have hdsu := echoedState_dsu s c sl rx
  obtain h | ⟨i, k, hk, hc, ⟨k', h⟩ | ⟨y, record, hy, h⟩⟩ := surveyStage_cases (echoedState s c sl rx) c
    (turnInput s c sl) (turnError s c sl rx) rx.isNone
  · rw [surveyedState, h]
  · rw [surveyedState, h, State.setUnit_ch]
  · have hqueue : ∀ e ∈ (echoedState s c sl rx).dsu.queue, e.channel ≠ c := by
      rw [hdsu] at hk ⊢
      exact hc ▸ queue_ne_of_unit hs hk
    rw [surveyedState, h, endRunning_ch_same (s := State.setCh _ c y) hqueue, surveyOver_ch, if_pos rfl,
      State.setCh_ch_same]
    exact hy

theorem boundaryChange_tx {x y : Channel} (h : BoundaryChange x y) : (endTurn y).tx = x.tx
    ∧ (endTurn y).counters.txSamplesStarved = x.counters.txSamplesStarved := by
  obtain ⟨_, _, _, _, _, _, _, _, _, _, _, _, _, _, _, _, _, _, rfl⟩ := h
  exact ⟨rfl, rfl⟩

/-- What the turn leaves of the transmit part is what the choice left. -/
theorem turn_tx (hs : SurveyUnits s) : ((turn s c sl rx).ch c).tx = (chosenChannel s c).tx
    ∧ (turn s c sl rx).highway.drive[sl.val] = some (sentSample s c)
    ∧ ((turn s c sl rx).ch c).counters.txSamplesStarved = (chosenChannel s c).counters.txSamplesStarved := by
  obtain ⟨y, hy, ht⟩ := turn_ch s c sl rx
  obtain ⟨htx, hstarved⟩ := boundaryChange_tx hy
  obtain ⟨htx', hstarved'⟩ := echoedState_tx sl rx s c
  have hsurveyed : ((surveyedState s c sl rx).ch c).counters.txSamplesStarved
      = ((echoedState s c sl rx).ch c).counters.txSamplesStarved := by
    obtain ⟨_, _, _, _, _, _, h⟩ := surveyChange_surveyed s c sl rx
    rw [h]
  have hfilter : ∀ (ch : Channel) (v r : Sample), (eqStage (powerStage ch v r) r).tx = ch.tx
      ∧ (eqStage (powerStage ch v r) r).counters = ch.counters := fun _ _ _ => ⟨rfl, rfl⟩
  obtain ⟨hftx, hfcount⟩ := hfilter ((surveyedState s c sl rx).ch c) (turnRx (s.ch c) rx) (turnError s c sl rx)
  refine ⟨?_, ?_, ?_⟩
  · rw [ht, htx, filteredState_ch, hftx, surveyedState_tx sl rx hs, htx']
  · rw [turn_highway]
    exact Vector.getElem_set_self _
  · rw [ht, hstarved, filteredState_ch, hfcount, hsurveyed, hstarved']

/-! ### The four choices -/

/-- The transmit part, the slot's sample, the starved count and TX_LOW at the end of a turn with this choice. -/
theorem turn_choice (hs : SurveyUnits s) {probing : Bool} (hp : s.dsu.probing c = probing) {y : Channel} {out : Sample}
    {notice : Option NoticeBody} (h : chooseSample (s.ch c) probing = ⟨y, out, notice⟩) :
    (((turn s c sl rx).ch c).tx = y.tx ∧ (turn s c sl rx).highway.drive[sl.val] = some out
        ∧ ((turn s c sl rx).ch c).counters.txSamplesStarved = y.counters.txSamplesStarved)
      ∧ (notice = none → lows c (turn s c sl rx) = lows c s)
      ∧ ∀ level, notice = some (.txLow level) → ∃ n ∈ lows c (turn s c sl rx), n.body = .txLow level := by
  subst hp
  obtain ⟨htx, hdrive, hstarved⟩ := turn_tx sl rx hs (c := c)
  rw [chosenChannel, h] at htx hstarved
  rw [sentSample, h] at hdrive
  rw [turn_lows]
  refine ⟨⟨htx, hdrive, hstarved⟩, fun hn => chosen_silent ?_, fun level hn => chosen_lows ?_⟩
  · rw [h, hn]
  · rw [h, hn]

/-- The flags of the block after the stages (R79, R84, R90, R163). -/
theorem filteredState_marked (hs : SurveyUnits s) (hstart : (s.ch c).tx.state = .running ∨ 1 ≤ (s.ch c).params.txStart) :
    let f := ((filteredState s c sl rx).ch c).eq.flags
    let probing := ∃ i k, s.dsu.unit i = some k ∧ k.entry.channel = c ∧ k.entry.probe = true
    (f.slip = true ↔ (s.ch c).eq.flags.slip = true ∨ rx = none)
      ∧ (f.starved = true
        ↔ (s.ch c).eq.flags.starved = true ∨ ¬ probing ∧ (s.ch c).tx.state = .running ∧ (s.ch c).tx.queue = [])
      ∧ (f.probe = true ↔ (s.ch c).eq.flags.probe = true ∨ probing)
      ∧ (f.echoAdapt = true ↔ (s.ch c).eq.flags.echoAdapt = true
        ∨ rx ≠ none ∧ (s.ch c).echo.mode ≠ .hold ∧ (s.ch c).echo.guard = 0) := by
  intro f probing
  have hflag : ∀ (P : Prop) [Decidable P] (b : Bool), ((if P then true else b) = true ↔ b = true ∨ P) := by
    intro P _ b
    by_cases hP : P <;> simp [hP]
  have hprobing : s.dsu.probing c = true ↔ probing := probing_iff hs c
  have hnot : s.dsu.probing c = false ↔ ¬ probing := by rw [← hprobing, Bool.not_eq_true]
  obtain ⟨hstarved, hprobe⟩ := chooseSample_flags (s.dsu.probing c) hstart
  rw [hnot] at hstarved
  rw [hprobing] at hprobe
  have hf : f = _ := filteredState_flags s c sl rx
  rw [hf]
  exact ⟨hflag _ _, hstarved, hprobe, hflag _ _⟩

end

end Sys2Proof.Proofs
end

section
/-! PROOF. One turn (R43 to R46): what its stages leave, what it leaves, and the block boundary a full block brings. -/

namespace Sys2Proof.Proofs
open Sys2Proof.Machine Sys2Proof.Safety Sys2Proof.Laws

/-- What the stages set of a context, the rest standing. -/
theorem stagesChange_eq {x y : Channel} (h : StagesChange x y) : y = { x with
    writeIndex := y.writeIndex, heldRx := y.heldRx, tx := y.tx, survey := y.survey, lastResult := y.lastResult
    echo := { x.echo with
      near := y.echo.near, far := y.echo.far, delay := y.echo.delay, mode := y.echo.mode, guard := y.echo.guard
      trainCount := y.echo.trainCount, extension := y.echo.extension, checkpoint := y.echo.checkpoint }
    eq := { x.eq with
      ring := y.eq.ring, outputs := y.eq.outputs, positions := y.eq.positions, flags := y.eq.flags }
    quality := { x.quality with
      pRx := y.quality.pRx, pRes := y.quality.pRes, slipTurns := y.quality.slipTurns }
    counters := { x.counters with
      txSamplesStarved := y.counters.txSamplesStarved
      trainCompletions := y.counters.trainCompletions
      surveysDone := y.counters.surveysDone } } := by
  obtain ⟨_, _, _, _, _, _, _, _, _, _, _, _, _, _, _, _, _, _, _, _, _, _, _, rfl⟩ := h
  rfl

/-- What no stage sets: the profile, the equalizer's taps, mode and references, the strikes and the armings. -/
theorem stagesChange_stands {x y : Channel} (h : StagesChange x y) : y.params = x.params ∧ y.eq.taps = x.eq.taps
    ∧ y.eq.mode = x.eq.mode ∧ y.eq.nextSeq = x.eq.nextSeq ∧ y.eq.pendingRefs = x.eq.pendingRefs
    ∧ y.echo.strikes = x.echo.strikes ∧ y.quality.erleArm = x.quality.erleArm ∧ y.quality.mseArm = x.quality.mseArm := by
  obtain ⟨_, _, _, _, _, _, _, _, _, _, _, _, _, _, _, _, _, _, _, _, _, _, _, rfl⟩ := h
  exact ⟨rfl, rfl, rfl, rfl, rfl, rfl, rfl, rfl⟩

theorem echo_of_survey {e f : EchoPart} {delay : Nat} {far : List Sample} (h : e = { f with delay := delay, far := far }) :
    e.near = f.near ∧ e.guard = f.guard := by
  subst h
  exact ⟨rfl, rfl⟩

theorem Trained.all {a : Channel} {mode thenMode : EchoMode} {count : Nat} {extension : Option Nat}
    {checkpoint : Option Machine.Checkpoint} {done : Count} (h : Trained a mode count extension checkpoint done thenMode) :
    a.echo.mode = mode ∧ a.echo.trainCount = count ∧ a.echo.extension = extension ∧ a.echo.checkpoint = checkpoint
      ∧ a.counters.trainCompletions = done ∧ a.echo.thenMode = thenMode :=
  ⟨h.mode, h.count, h.extension, h.checkpoint, h.done, h.thenMode⟩

section
variable (s : State) (c : ChanId) (sl : SlotId) (rx : Option Sample)

/-- The near taps and the guard after the stages (R7, R24). -/
theorem filteredState_near : ((filteredState s c sl rx).ch c).echo.near = turnNear s c sl rx
    ∧ ((filteredState s c sl rx).ch c).echo.guard = if rx = none then 64 else (s.ch c).echo.guard := by
  obtain ⟨_, _, hecho⟩ := filteredState_echoed s c sl rx
  obtain ⟨hnear, hguard⟩ := echo_of_survey hecho
  obtain ⟨-, -, -, hguard', -⟩ := echoedState_echo s c sl rx
  exact ⟨hnear.trans (echoedState_taps s c sl rx).1, hguard.trans hguard'⟩

theorem filteredState_surveyed : SurveyedEcho s c sl rx ((filteredState s c sl rx).ch c).echo := by
  rw [filteredState_echo]
  exact surveyedState_surveyed s c sl rx

/-- A pending extension keeps the mode over the train count step (R97). -/
theorem echoedChannel_mode {ch : Channel} (h : ch.echo.extension ≠ none) (x : Nat → Sample) (r : Sample) :
    (echoedChannel ch x r).echo.mode = ch.echo.mode := by
  obtain ⟨htrained, -⟩ := echoUpdate_training ch x r
  obtain ⟨n, hn⟩ := Option.ne_none_iff_exists'.1 h
  have hext := htrained.extension.trans hn
  unfold echoedChannel trainedChannel
  rw [hext]
  split
  · split <;> exact htrained.mode
  · exact htrained.mode

theorem filteredState_mode (h : (s.ch c).echo.extension ≠ none) :
    ((filteredState s c sl rx).ch c).echo.mode = (s.ch c).echo.mode := by
  obtain ⟨_, _, hecho⟩ := filteredState_echoed s c sl rx
  have hreceived := receiveStage_chosen_echo s c rx
  have hmode := echoedChannel_mode (ch := receiveStage (chosenChannel s c) rx) (by rw [hreceived]; exact h)
    (turnInput s c sl) (turnError s c sl rx)
  rw [hreceived, ← echoedState_ch] at hmode
  exact (training_of_survey hecho).1.trans hmode

/-- The turn of a block that is full is its boundary on what the stages leave, and the turn's end (R46). -/
theorem turn_full (h : (s.ch c).eq.outputs.length + 1 = (s.ch c).params.blockSize) : turn s c sl rx
    = (boundary (filteredState s c sl rx) c).setCh c { (boundary (filteredState s c sl rx) c).ch c with
        echo := { ((boundary (filteredState s c sl rx) c).ch c).echo with
          guard := ((boundary (filteredState s c sl rx) c).ch c).echo.guard - 1 }
        writeIndex := ((boundary (filteredState s c sl rx) c).ch c).writeIndex + 1 } := by
  have hfull : ((filteredState s c sl rx).ch c).eq.outputs.length = ((filteredState s c sl rx).ch c).params.blockSize := by
    rw [filteredState_outputs, (stagesChange_stands (stagesChange_filteredState s c sl rx)).1, h]
  rw [turn_stages, boundaryIfFull, if_pos hfull, State.modCh, endTurn]

theorem turn_inside (h : (s.ch c).eq.outputs.length + 1 ≠ (s.ch c).params.blockSize) :
    turn s c sl rx = (filteredState s c sl rx).modCh c endTurn := by
  have hnot : ¬ ((filteredState s c sl rx).ch c).eq.outputs.length = ((filteredState s c sl rx).ch c).params.blockSize := by
    rw [filteredState_outputs, (stagesChange_stands (stagesChange_filteredState s c sl rx)).1]
    exact h
  rw [turn_stages, boundaryIfFull, if_neg hnot]

/-- The stages touch TX_LOW, TRAIN_DONE and SURVEY_DONE only (R208). -/
theorem filteredState_kinds : OthersStand (ofKinds c [0x40, 0x42, 0x44]) s (filteredState s c sl rx) :=
  filteredState_notices s c sl rx (own_echoed s c sl rx).notices (local_surveyed s c sl rx).notices (by decide) (by decide)
    (by decide)

/-- What a turn inside a block leaves of its channel and of the link. -/
theorem turn_inside_stands (h : (s.ch c).eq.outputs.length + 1 ≠ (s.ch c).params.blockSize) :
    StagesChange (s.ch c) ((turn s c sl rx).ch c) ∧ (turn s c sl rx).link.dataQueue = s.link.dataQueue
      ∧ OthersStand (ofKinds c [0x40, 0x42, 0x44]) s (turn s c sl rx) := by
  have hmod : ∀ t : State, (t.modCh c endTurn).link = t.link := fun _ => rfl
  refine ⟨?_, ?_, ?_⟩
  · rw [turn_ch_inside s c sl rx h]
    exact (stagesChange_filteredState s c sl rx).trans (stagesChange_endTurn _)
  · rw [turn_inside s c sl rx h, hmod, filteredState_dataQueue]
  · rw [turn_inside s c sl rx h, OthersStand, hmod]
    exact filteredState_kinds s c sl rx

/-- The turn's end leaves the block, the taps, D and the flags. -/
theorem endTurn_keeps (ch : Channel) : (endTurn ch).eq = ch.eq ∧ (endTurn ch).echo.near = ch.echo.near
    ∧ (endTurn ch).echo.delay = ch.echo.delay ∧ (endTurn ch).echo.far = ch.echo.far := ⟨rfl, rfl, rfl, rfl⟩

end

/-- Settles O13: the turn by its stages, which end in `filteredState`, and the boundary and the turn's end on it. -/
theorem turnRunsFilters : Obligations.TurnRunsFilters := by
  intro s c sl rx
  have hpart := partStands_turn s c sl rx
  have hpart' := partStands_filtered s c sl rx
  have hinside := turn_inside_stands s c sl rx
  have hend := turn_ch_inside s c sl rx
  have hboundary := turn_full s c sl rx
  have hfigures := turn_figures s c sl rx
  have hfigures' := filteredState_figures s c sl rx
  have hstages := stagesChange_filteredState s c sl rx
  have hnear' := filteredState_near s c sl rx
  have hsurveyed := filteredState_surveyed s c sl rx
  have hmode' := filteredState_mode s c sl rx
  have hmarked := fun hs : SurveyUnits s => filteredState_marked (c := c) sl rx hs
  have hchoice := fun (hs : SurveyUnits s) (probing : Bool) (hp : s.dsu.probing c = probing) (y : Channel) (out : Sample)
    (notice : Option NoticeBody) (h : chooseSample (s.ch c) probing = ⟨y, out, notice⟩) => turn_choice sl rx hs hp h
  have htrain := trainStepped_turn s c sl rx
  have htrain' := trainStepped_filtered s c sl rx
  have hdone := trainDone_turn s c sl rx
  have hdone' := trainDone_filtered s c sl rx
  have hqueue' := filteredState_dataQueue s c sl rx
  have hkinds' := filteredState_kinds s c sl rx
  generalize turn s c sl rx = u at *
  generalize filteredState s c sl rx = w at *
  obtain ⟨hindex, hheld, hpRx, hpRes, hslips, hring, houtputs, hpositions⟩ := hfigures'
  obtain ⟨hnear, hguard⟩ := hnear'
  obtain ⟨-, hnearKept, hdelayKept, hfarKept⟩ := endTurn_keeps (w.ch c)
  intro ch v x r shift adapts near far ring y u' t inside probing starves sends marked applies surveyed
    trainStepped lows endsSurvey endsTraining onlyTouches stagesTouch partStands
  have htrained : ∀ {a : Channel} {notices : List Notice}, TrainStepped (s.ch c) (turnNear s c sl rx) (turnFar s c sl rx) a →
      ((s.ch c).echo.mode = .train → (s.ch c).echo.trainCount = 1 → (s.ch c).echo.extension = none →
        ∃ n ∈ notices, n.channel = chanByte c
          ∧ n.body = .trainDone (s.ch c).echo.thenMode (s.ch c).params.autoCheckpoint) →
      trainStepped a notices := by
    rintro a notices ⟨hother, hfalls, hexpires, hextends⟩ hnotice
    exact ⟨fun hm => (hother hm).all, fun hm hn => (hfalls hm hn).all,
      fun hm hn hx => ⟨(hexpires hm hn hx).all, hnotice hm hn hx⟩, fun n hm hn hx => (hextends n hm hn hx).all⟩
  refine ⟨?part, fun hin => ?insideStands, ?figures, fun hin => ?insideFilters, fun hs => ?sends,
    fun hsteps => htrained (htrain hsteps) hdone, fun hfull => ⟨w, ?full⟩⟩
  case part =>
    obtain ⟨hsample, hrest, halone, hnotices, htraining⟩ := hpart
    exact ⟨hsample, hrest, halone, hnotices, htraining⟩
  case insideStands =>
    obtain ⟨hchange, hqueue, hkinds⟩ := hinside hin
    exact ⟨stagesChange_eq hchange, hqueue, hkinds⟩
  case figures =>
    obtain ⟨h1, h2, h3, h4, h5, h6, h7⟩ := hfigures
    exact ⟨h1, h2, h3, h4, h5, h6, h7⟩
  case insideFilters =>
    have ht : t = endTurn (w.ch c) := hend hin
    rw [ht]
    obtain ⟨hkept, happlied⟩ := surveyedEcho_congr s c sl rx hdelayKept hfarKept hsurveyed
    exact ⟨houtputs, hpositions, hnearKept.trans hnear, hkept, happlied⟩
  case sends =>
    intro kept
    have hprobing := probing_iff hs c
    have hnot : ¬ probing → s.dsu.probing c = false := fun h => Bool.eq_false_iff.2 (mt hprobing.1 h)
    refine ⟨fun hp => ?_, fun hp hst hlow => ?_, fun hp hstart head rest hq => ?_, fun ⟨hp, hrun, hq⟩ => ?_,
      fun hin hstart => ?_⟩
    · obtain ⟨hsends, hquiet, -⟩ := hchoice hs true (hprobing.2 hp) _ _ _ rfl
      exact ⟨hsends, hquiet rfl⟩
    · obtain ⟨hsends, hquiet, -⟩ := hchoice hs false (hnot hp) _ _ _ (chooseSample_low hst hlow)
      exact ⟨hsends, hquiet rfl⟩
    · obtain ⟨htx, hcount, -, hnotice⟩ := popSample_eq (s.ch c) rest
      obtain ⟨⟨htx', hdrive, hstarved⟩, hquiet, hraised⟩ :=
        hchoice hs false (hnot hp) _ _ _ ((chooseSample_queue hstart).trans (chooseQueue_cons hq))
      exact ⟨⟨htx'.trans htx, hdrive, hstarved.trans (congrArg ChanCounters.txSamplesStarved hcount)⟩,
        fun hfalls => hraised _ (hnotice.trans (if_pos hfalls)), fun hstands => hquiet (hnotice.trans (if_neg hstands))⟩
    · obtain ⟨hsends, hquiet, -⟩ :=
        hchoice hs false (hnot hp) _ _ _ ((chooseSample_queue (.inl hrun)).trans (chooseQueue_nil hq))
      exact ⟨hsends, hquiet rfl⟩
    · have ht : t = endTurn (w.ch c) := hend hin
      rw [ht]
      exact hmarked hs hstart
  case full =>
    obtain ⟨hparams, htaps, hmode, hseq, hrefs, hstrikes, herle, hmse⟩ := stagesChange_stands hstages
    obtain ⟨hsample, hrest, halone, hnotices, htraining⟩ := hpart'
    obtain ⟨hkept, happlied⟩ := hsurveyed
    exact ⟨hparams, houtputs, hpositions, hring, htaps, hmode, hseq, hrefs, hnear, ⟨hkept, happlied⟩,
      htrained htrain' hdone', hguard, hstrikes, hmode', hpRx, hpRes, herle, hmse, hmarked, hqueue',
      stagesChange_eq hstages, ⟨hsample, hrest, halone, hnotices, htraining⟩, hkinds', hboundary (not_not.1 hfull)⟩

end Sys2Proof.Proofs
end
